-- ==== Sys2Proof/Word.lean ====
section
/-! DEFINITION. The words of the Vodral 2408 and their plainest arithmetic (spec/00_scope.md section 4). -/

namespace Sys2Proof

/-- A word is 16 bits (convention 1). -/
abbrev Word := BitVec 16

/-- The value of a character on the coupling line (R35), a class, a role, a status. -/
abbrev Byte := BitVec 8

/-- One hexadecimal digit of an identity (convention 5). -/
abbrev Digit := BitVec 4

/-- A device's identity: 48 bits, digit d0 the most significant (convention 5, R59). -/
abbrev Identity := BitVec 48

/-- The leading digits of an identity, d0 first; its length is the L of a seek (convention 5, R100). -/
abbrev Prefix := List Digit

/-- A name, 1 to 62 (convention 4), as its position in the directory: name n is the index n − 1, so
that no other number can be written. The order of the indices is the order of the names. -/
abbrev Name := Fin 62

/-- The number of a request slot, 0 to 7 (R144). -/
abbrev SlotNo := Fin 8

/-- The number by which the manual calls a name. -/
def nameNum (n : Name) : Nat := n.val + 1

/-- The name with a given number; `none` outside 1 to 62. -/
def nameOfNum (k : Nat) : Option Name :=
  if h : 1 ≤ k ∧ k ≤ 62 then some ⟨k - 1, by omega⟩ else none

/-- All names in ascending order. -/
def allNames : List Name := List.finRange 62

/-- All slots in ascending order. -/
def allSlots : List SlotNo := List.finRange 8

/-- A value brought to the nearer end of a range when it lies outside (R160). -/
def clampNat (lo hi v : Nat) : Nat := max lo (min hi v)

/-- A counter that stays at its largest value once it has reached it (R28, R107, R114). -/
def addUpTo (top v k : Nat) : Nat := min top (v + k)

/-- A flag as a bit of a word. -/
def bitOf (b : Bool) (k : Nat) : Nat := if b then 2 ^ k else 0

end Sys2Proof
end

