-- ==== Sys2Proof/Syntax.lean ====
section
/-! DEFINITION. The commands of the part: one constructor of `Instr` for each row of spec/opcode_table.json.
The table gives no operands; they are what the row's rule says the event carries. -/

namespace Sys2Proof

/-- The two mate-sense contacts (R1). -/
inductive Contact where
  | first
  | last
  deriving DecidableEq, Repr

/-- The reason a coupling-lost notice carries (R12). -/
inductive LossReason where
  | decoupled
  | faulted
  | hold
  deriving DecidableEq, Repr

/-- The result of a pass (R110, R111); `none` before any pass has ended. -/
inductive PassResult where
  | none
  | complete
  | incomplete
  deriving DecidableEq, Repr

/-- The result of a claim group (R64). -/
inductive ClaimResult where
  | success
  | dispute
  | failure
  deriving DecidableEq, Repr

/-- Where a pass-wanted notice comes from (R112). -/
inductive WantSource where
  | search
  | dispute
  | move
  deriving DecidableEq, Repr

/-- The three rotation claimants of the coupling line, in rotation order (R51). -/
inductive Claimant where
  | walker
  | rollCaller
  | requestUnit
  deriving DecidableEq, Repr

/-- The roll caller's reports to the directory unit (R90, R91). -/
inductive RollReport where
  | answered (status : Byte) (round : Word)
  | strike (strikes : Nat)
  | struckOut
  | revived (status : Byte) (round : Word)
  | retentionStep (keep : Nat)
  | dispute
  | retentionExpired
  deriving DecidableEq, Repr

/-- A falling edge of the coupling line and what the receiver samples if the edge begins a character
(R39). `time` counts hundredths of a bit time, from the moment the call was sent for an ordinary
answer and from the window's start for a seek window. DESIGN CHOICE (unit of time): log 11. -/
structure LineEdge where
  time : Nat
  /-- the line is still low half a bit time after the edge -/
  low : Bool
  value : Byte
  marker : Bool
  /-- the stop bit is high at its sample -/
  stopHigh : Bool
  deriving DecidableEq, Repr

/-- One bit time of the coupling line, as the line-held count sees it (R47). -/
inductive LineBit where
  /-- the transmitter drives the line low -/
  | driven
  /-- the transmitter releases the line and the line is low -/
  | low
  /-- the transmitter releases the line and the line is high -/
  | high
  deriving DecidableEq, Repr

/-- The bit times of a line that is held low until any line-held count is full (R47): what LINE_HELD carries where it is
written without an operand. -/
def heldLow : List LineBit := List.replicate 64 .low

/-- The commands. Each docstring names the row's rule. -/
inductive Instr where
  /-- R157; the contact levels sensed at the release of RESET (closed = true) -/
  | hardReset (first last : Bool)
  /-- R1; the contact and its new level (closed = true) -/
  | contactEdge (contact : Contact) (closed : Bool)
  /-- R7 -/
  | settleExpiry
  /-- R8 -/
  | logicOnReport
  /-- R9 -/
  | powerWaitExpiry
  /-- R10; the result and whether a follow-up pass is wanted -/
  | passEndReport (result : PassResult) (followUp : Bool)
  /-- R11 -/
  | passStartReport
  /-- R11 -/
  | passRetryExpiry
  /-- R14 -/
  | stageBNotice
  /-- R15 -/
  | lineHeldNotice
  /-- R161: the host writes 1 to RUNCTL.RUN -/
  | runEntry
  /-- R162: the host writes 0 to RUNCTL.RUN -/
  | softHold
  /-- R23 -/
  | sampleNotice
  /-- R23 -/
  | stopNotice
  /-- R25 -/
  | captureNotice
  /-- R24; the raw readings of LOGIC and DRIVE, 0 to 4095 -/
  | sampleCompletion (rawLogic rawDrive : BitVec 12)
  /-- R21 -/
  | feedsOffCommand
  /-- R22 -/
  | feedCouplingLost (reason : LossReason)
  /-- R37 -/
  | lineActiveNotice
  /-- R54 -/
  | lineInactiveNotice
  /-- R54 -/
  | lineCouplingLost (reason : LossReason)
  /-- R165 -/
  | lineServingNotice
  /-- R38 -/
  | callSent
  /-- R41; the falling edges of the line after the call, in time order -/
  | answerEnd (edges : List LineEdge)
  /-- R43; the falling edges of the line in the window, in time order -/
  | windowEnd (edges : List LineEdge)
  /-- R70 -/
  | callGapEnd
  /-- R46 -/
  | lineClearLowEnd
  /-- R46 -/
  | lineClearSent
  /-- R47; the bit times of the line that have passed at the line-held count, the last of them now -/
  | lineHeld (bits : List LineBit := heldLow)
  /-- R53; the claimant told -/
  | groupAbandoned (claimant : Claimant)
  /-- R99 -/
  | firstPassNotice
  /-- R112 -/
  | passWantedNotice (source : WantSource)
  /-- R113 -/
  | retryDueNotice
  /-- R114 -/
  | roundEndNotice
  /-- R117 -/
  | walkerLineClearSent
  /-- R116 -/
  | walkerCouplingLost (reason : LossReason)
  /-- R88; name, identity, result and, for a success through a verifying roll, its status -/
  | claimOutcomeReport (name : Name) (ident : Identity) (result : ClaimResult) (status : Option Byte)
  /-- R77 -/
  | directoryReleaseSent (name : Name)
  /-- R95 -/
  | directoryLineClearSent
  /-- R94 -/
  | directoryCouplingLost (reason : LossReason)
  /-- R89 point 1; the old name and the target -/
  | moveReleaseReport (old target : Name)
  /-- R89 point 2 -/
  | moveOutcomeReport (name : Name) (ident : Identity) (result : ClaimResult) (status : Option Byte)
  /-- R90 -/
  | rollReport (name : Name) (report : RollReport)
  /-- R79: the host writes the seen word of a name -/
  | acknowledgement (name : Name) (value : Word)
  /-- R121 -/
  | rollPeriodExpiry
  /-- R121 -/
  | rollServingNotice
  /-- R131 -/
  | rollCouplingLost (reason : LossReason)
  /-- R152: an ASK write with intent POST, kind READ in the slot -/
  | readRequest (slot : SlotNo) (ticket : Byte)
  /-- R152: kind WRITE -/
  | writeRequest (slot : SlotNo) (ticket : Byte)
  /-- R153: kind MOVE -/
  | moveRequest (slot : SlotNo) (ticket : Byte)
  /-- R92: kind FORGET -/
  | forgetRequest (slot : SlotNo) (ticket : Byte)
  /-- R155: kind SEARCH -/
  | searchRequest (slot : SlotNo) (ticket : Byte)
  /-- R154: kind RESEAT -/
  | reseatRequest (slot : SlotNo) (ticket : Byte)
  /-- R130: kind RETIME -/
  | retimeRequest (slot : SlotNo) (ticket : Byte)
  /-- R32: kind LIMITS -/
  | limitsRequest (slot : SlotNo) (ticket : Byte)
  /-- R33: kind DRIVE -/
  | driveRequest (slot : SlotNo) (ticket : Byte)
  /-- R17: kind REARM -/
  | rearmRequest (slot : SlotNo) (ticket : Byte)
  /-- R150: an ASK write with intent WITHDRAW -/
  | withdraw (slot : SlotNo) (ticket : Byte)
  /-- R163: an ASK write with intent 3 (`three`) or 0 -/
  | askInvalidIntent (slot : SlotNo) (ticket : Byte) (three : Bool)
  /-- R149 -/
  | requestWaitExpiry (slot : SlotNo)
  /-- R154 -/
  | requestLineClearSent
  /-- R156 -/
  | requestCouplingLost (reason : LossReason)
  /-- R165 -/
  | requestServingNotice
  /-- R9 -/
  | requestDiscoveringNotice
  /-- R140: a host write to ALERT -/
  | alertClear (value : Word)
  /-- R141: a host write to ALERTMASK -/
  | alertmaskWrite (value : Word)
  /-- R133: an access with both strobes -/
  | bothStrobes
  /-- R134: a host write of a value to a word address -/
  | hostWrite (addr : BitVec 11) (value : Word)
  /-- R146: an ASK write with intent POST and an unknown kind in the slot -/
  | postUnknownKind (slot : SlotNo) (ticket : Byte)
  deriving DecidableEq, Repr

end Sys2Proof
end

