-- ==== Sys2Proof/Config.lean ====
section
/-! DEFINITION. The constants of the Vodral 2408: the fixed numbers of its rules and the ranges and defaults
of its parameters (spec/10_settings_hold_and_run.md, table of R158). The spec leaves no value free, so
there is no opaque constant. -/

namespace Sys2Proof.Config

/-- What IDENT reads (R138). -/
def identWord : Word := 0x2408#16

/-- The seek stack holds at most 24 prefixes (R100). -/
def stackMax : Nat := 24

/-- A pass may send at most 255 seeks (R104). -/
def seekBudget : Nat := 255

/-- The largest value of a counter of 0 to 255 (R28, R107, R114). -/
def counterMax : Nat := 255

/-- The attempt count is at most 8 (R111). -/
def attemptMax : Nat := 8

/-- The longest prefix a seek carries (R61). -/
def prefixMax : Nat := 11

/-- A pedestal above 255 is set to 255 (R25). -/
def pedestalMax : Nat := 255

/-- A pedestal capture takes 8 samples (R25). -/
def captureSamples : Nat := 8

/-- The line-held count at which the notice is given (R47). -/
def heldLimit : Nat := 64

/-- One bit time, in the unit of `LineEdge.time`. DESIGN CHOICE: log 11. -/
def bitTime : Nat := 100

/-- A start bit is validated half a bit time after its falling edge (R39). -/
def validateAfter : Nat := 50

/-- The stop bit is sampled 10.5 bit times after the falling edge (R39). -/
def stopAfter : Nat := 1050

/-- A start bit must be validated by time 24 (R41). -/
def answerLimit : Nat := 24 * bitTime

/-- A further start bit must be validated within 22 bit times of a stop-bit sample (R41). -/
def shortGap : Nat := 22 * bitTime

/-- Window 0 of a seek starts 12 bit times after the call has been sent (R42); counted in whole bit times. -/
def windowsStart : Nat := 12

/-- A seek window lasts 96 bit times (R42). -/
def windowLength : Nat := 96 * bitTime

/-- The identities no device holds (R59, R102). -/
def excludedIdentity (i : Identity) : Bool := i = 0#48 || i = 0xFFFFFFFFFFFF#48

/-- The values a raw reading takes, 0 to 4095 (section 2.2). -/
def readingMax : Nat := 4095

end Sys2Proof.Config
end

