-- ==== Sys2Proof/WellFormed.lean ====
section
/-! DEFINITION. Well-formed commands: the checks on a command's operands alone that the types do not make.
Names, slots, addresses and readings are in range by their types. -/

namespace Sys2Proof

/-- Falling edges stand in time order (convention: one line, one sequence of edges). -/
def edgesRise : List LineEdge → Bool
  | [] => true
  | [_] => true
  | a :: b :: rest => decide (a.time < b.time) && edgesRise (b :: rest)

/-- Every falling edge of a seek window lies inside the window (R42). -/
def edgesInWindow (edges : List LineEdge) : Bool :=
  edges.all fun e => decide (e.time < Config.windowLength)

/-- A status byte comes with a success only (R107: "for a success through a verifying roll"). -/
def statusFits : ClaimResult → Option Byte → Bool
  | .success, _ => true
  | _, st => st.isNone

/-- The counts a roll report carries (R72): STRIKES 1 to 14 below a STRIKE_LIMIT of at most 15, and a
KEEP of 1 to 254 after a step. -/
def RollReport.wellFormed : RollReport → Bool
  | .strike k => decide (1 ≤ k ∧ k ≤ 14)
  | .retentionStep k => decide (1 ≤ k ∧ k ≤ 254)
  | _ => true

/-- The operand checks of a command. -/
def Instr.wellFormed : Instr → Bool
  | .answerEnd edges => edgesRise edges
  | .windowEnd edges => edgesRise edges && edgesInWindow edges
  | .claimOutcomeReport _ _ r st => statusFits r st
  | .moveOutcomeReport _ _ r st => statusFits r st
  | .moveReleaseReport old target => decide (old ≠ target)
  | .rollReport _ rep => rep.wellFormed
  | .passEndReport r _ => decide (r ≠ .none)
  | .hardReset _ _ => true
  | .contactEdge _ _ => true
  | .settleExpiry => true
  | .logicOnReport => true
  | .powerWaitExpiry => true
  | .passStartReport => true
  | .passRetryExpiry => true
  | .stageBNotice => true
  | .lineHeldNotice => true
  | .runEntry => true
  | .softHold => true
  | .sampleNotice => true
  | .stopNotice => true
  | .captureNotice => true
  | .sampleCompletion _ _ => true
  | .feedsOffCommand => true
  | .feedCouplingLost _ => true
  | .lineActiveNotice => true
  | .lineInactiveNotice => true
  | .lineCouplingLost _ => true
  | .lineServingNotice => true
  | .callSent => true
  | .callGapEnd => true
  | .lineClearLowEnd => true
  | .lineClearSent => true
  | .lineHeld _ => true
  | .groupAbandoned _ => true
  | .firstPassNotice => true
  | .passWantedNotice _ => true
  | .retryDueNotice => true
  | .roundEndNotice => true
  | .walkerLineClearSent => true
  | .walkerCouplingLost _ => true
  | .directoryReleaseSent _ => true
  | .directoryLineClearSent => true
  | .directoryCouplingLost _ => true
  | .acknowledgement _ _ => true
  | .rollPeriodExpiry => true
  | .rollServingNotice => true
  | .rollCouplingLost _ => true
  | .readRequest _ _ => true
  | .writeRequest _ _ => true
  | .moveRequest _ _ => true
  | .forgetRequest _ _ => true
  | .searchRequest _ _ => true
  | .reseatRequest _ _ => true
  | .retimeRequest _ _ => true
  | .limitsRequest _ _ => true
  | .driveRequest _ _ => true
  | .rearmRequest _ _ => true
  | .withdraw _ _ => true
  | .askInvalidIntent _ _ _ => true
  | .requestWaitExpiry _ => true
  | .requestLineClearSent => true
  | .requestCouplingLost _ => true
  | .requestServingNotice => true
  | .requestDiscoveringNotice => true
  | .alertClear _ => true
  | .alertmaskWrite _ => true
  | .bothStrobes => true
  | .hostWrite _ _ => true
  | .postUnknownKind _ _ => true

end Sys2Proof
end

