-- ==== Sys2Proof/Machine/State.lean ====
section
/-! DEFINITION. Everything the spec gives the part, as plain data, with its value after a hard reset (R157).
One structure for each block of section 2.2 of spec/00_scope.md. -/

namespace Sys2Proof.Machine

/-! ### Coupling monitor (chapter 1) -/

/-- The seven coupling states (R2). -/
inductive CouplingState where
  | dormant
  | opened
  | making
  | powering
  | discovering
  | serving
  | faulted
  deriving DecidableEq, Repr

/-- The fault cause (R14, R15). -/
inductive FaultCause where
  | none
  | power
  | lineHeld
  deriving DecidableEq, Repr

/-- The coupling monitor's state. A contact level is `true` when closed. A timer is `none` when stopped
and holds the milliseconds it was started with while it runs. -/
structure CouplingMonitor where
  state : CouplingState := .dormant
  first : Bool := false
  last : Bool := false
  shownFirst : Bool := false
  shownLast : Bool := false
  partialMate : Bool := false
  cause : FaultCause := .none
  settle : Option Nat := none
  powerWait : Option Nat := none
  passRetry : Option Nat := none
  settleMs : Nat := 20
  powerWaitMs : Nat := 150
  passRetryMs : Nat := 20
  deriving DecidableEq, Repr

/-! ### Feed supervisor (chapter 2) -/

/-- The stage of the trip record. -/
inductive TripStage where
  | none
  | a
  | b
  deriving DecidableEq, Repr

/-- The limits a sample meets (R27). -/
structure CauseSet where
  logic : Bool := false
  drive : Bool := false
  sum : Bool := false
  deriving DecidableEq, Repr

/-- The readings of one sample (R24); `sum` is the live sum in the live words and the compared sum in
the trip record. -/
structure Readings where
  rawLogic : Nat := 0
  rawDrive : Nat := 0
  corrLogic : Nat := 0
  corrDrive : Nat := 0
  sum : Nat := 0
  deriving DecidableEq, Repr

/-- The trip record (section 2.5). -/
structure TripRecord where
  stage : TripStage := .none
  causes : CauseSet := {}
  readings : Readings := {}
  runLength : Nat := 0
  deriving DecidableEq, Repr

/-- The limits and trip counts in force (R32). -/
structure Limits where
  logic : Nat := 2000
  drive : Nat := 3000
  sum : Nat := 4500
  tripA : Nat := 5
  tripB : Nat := 20
  deriving DecidableEq, Repr

/-- A pedestal capture in progress: the capture samples taken and the sums of their raw readings (R25). -/
structure Capture where
  taken : Nat := 0
  sumLogic : Nat := 0
  sumDrive : Nat := 0
  deriving DecidableEq, Repr

/-- The feed supervisor's state. The readings are frozen exactly while `latch` is set (R31). `discard`
says that a feed was switched on and no sample has completed since (R24). -/
structure FeedSupervisor where
  logicOn : Bool := false
  driveOn : Bool := false
  pedLogic : Nat := 0
  pedDrive : Nat := 0
  pedHigh : Bool := false
  live : Readings := {}
  run : Nat := 0
  latch : Bool := false
  trip : TripRecord := {}
  limits : Limits := {}
  sampling : Bool := false
  capture : Option Capture := none
  discard : Bool := false
  deriving DecidableEq, Repr

/-! ### Line unit (chapters 3 and 4) -/

/-- The three line rates (R36). -/
inductive LineRate where
  | k250
  | k500
  | k1000
  deriving DecidableEq, Repr

/-- The calls (section 4.2), with the values their claimant gives. -/
inductive Call where
  | seek (pre : Prefix)
  | claim (ident : Identity) (name : Name)
  | roll (name : Name)
  | read (name : Name) (addr : Word) (count : Nat)
  | write (name : Name) (addr : Word) (words : List Word)
  | release (name : Name)
  deriving DecidableEq, Repr

/-- What a seek window gave: its raw class, with the identity and class of a CLEAN one (R43). -/
inductive Window where
  | silent
  | clean (ident : Identity) (cls : Byte)
  | garbled
  deriving DecidableEq, Repr

/-- The call group in flight and where it stands (R50, R52). -/
inductive Flight where
  /-- no group in flight -/
  | free
  /-- the line clear's 32 driven bit times (R46) -/
  | clearLow
  /-- the line clear's 16 idle bit times (R46) -/
  | clearIdle
  /-- the RELEASE of the release list's head is being sent (R49) -/
  | releasing (name : Name)
  /-- a claimant's call is being sent (R38) -/
  | sending (by_ : Claimant) (call : Call)
  /-- the answer to an ordinary call is awaited (R41) -/
  | listening (by_ : Claimant) (call : Call)
  /-- the windows of a seek run; `heard` holds the windows that have ended (R42) -/
  | windows (heard : List Window)
  /-- the call gap before the next call of the group (R70) -/
  | gap (by_ : Claimant) (next : Call)
  deriving DecidableEq, Repr

/-- The line unit's state (R37). `active` and `serving` are the line unit's own view of the coupling,
as its notices gave it (R37, R165). -/
structure LineUnit where
  active : Bool := false
  serving : Bool := false
  clearOwed : Bool := false
  releases : List Name := []
  pointer : Claimant := .requestUnit
  heldRunning : Bool := false
  heldCount : Nat := 0
  rate : LineRate := .k1000
  flight : Flight := .free
  deriving DecidableEq, Repr

/-! ### Directory unit (chapter 5) -/

/-- The seven entry states (section 5.2). -/
inductive EntryState where
  | vacant
  | offered
  | held
  | bound
  | stale
  | disputed
  | retiring
  deriving DecidableEq, Repr

/-- A directory entry (R72). `outside` is OUTSIDE_RANGE, `owed` is RELEASE_OWED. -/
structure Entry where
  gen : Word := 0
  state : EntryState := .vacant
  sticky : Bool := false
  conflict : Bool := false
  outside : Bool := false
  owed : Bool := false
  devstat : Byte := 0
  ident : Identity := 0
  cls : Byte := 0
  role : Byte := 0
  stamp : Word := 0
  strikes : Nat := 0
  keep : Nat := 0
  deriving DecidableEq, Repr

/-- The kinds of offer (R83). -/
inductive OfferKind where
  | new
  | ret
  | reclaim
  | move
  deriving DecidableEq, Repr

/-- The offer record (R83): `prior` is the entry's whole content before the offer. -/
structure Offer where
  name : Name
  ident : Identity
  kind : OfferKind
  prior : Entry
  deriving DecidableEq, Repr

/-- ACK_MASK (R78). -/
structure AckMask where
  join : Bool := false
  ret : Bool := false
  depart : Bool := true
  conflict : Bool := false
  deriving DecidableEq, Repr

/-- The directory unit's state (chapter 5). -/
structure Directory where
  entries : Vector Entry 62 := Vector.replicate 62 {}
  offer : Option Offer := none
  ackMask : AckMask := {}
  /-- the model's own: the coupling has been SERVING since the directory unit last took a coupling-lost notice
  (R90, R129; log 41) -/
  serving : Bool := false
  deriving DecidableEq, Repr

/-! ### Discovery walker (chapter 6) -/

/-- The walker's states. -/
inductive WalkerState where
  | idle
  | awaitClear
  | walking
  | sweepDue
  | sweeping
  deriving DecidableEq, Repr

/-- A candidate (R105). -/
structure Candidate where
  ident : Identity
  cls : Byte
  deriving DecidableEq, Repr

/-- The claim context (R106): the candidate, the name, the kind of offer, and the prefix length and
window digit of the seek that found the candidate. -/
structure ClaimContext where
  cand : Candidate
  name : Name
  kind : OfferKind
  len : Nat
  window : Digit
  deriving DecidableEq, Repr

/-- The running counts of a pass. -/
structure PassCounts where
  seeks : Nat := 0
  found : Nat := 0
  returned : Nat := 0
  reclaimed : Nat := 0
  phantom : Nat := 0
  unresolved : Nat := 0
  dropped : Nat := 0
  noRoom : Nat := 0
  deriving DecidableEq, Repr

/-- The pass record (R110). -/
structure PassRecord where
  number : Word := 0
  result : PassResult := .none
  counts : PassCounts := {}
  deriving DecidableEq, Repr

/-- The walker's state (table of chapter 6). `foundLen` is the prefix length recorded with the candidate
list, `seeking` the prefix of the seek in hand (R101). -/
structure Walker where
  state : WalkerState := .idle
  stack : List Prefix := []
  candidates : List Candidate := []
  foundLen : Nat := 0
  claim : Option ClaimContext := none
  seeking : Option Prefix := none
  passNumber : Word := 0
  counts : PassCounts := {}
  attempts : Nat := 0
  owed : Bool := false
  sweepCount : Nat := 0
  record : PassRecord := {}
  passAttempts : Nat := 3
  sweepRounds : Nat := 10
  deriving DecidableEq, Repr

/-! ### Roll caller (chapter 7) -/

/-- The roll caller's call in hand (R125): the name, its entry's state and IDENT at the grant, and the
attempts made, the present one included. -/
structure RollCall where
  name : Name
  state : EntryState
  ident : Identity
  attempts : Nat
  deriving DecidableEq, Repr

/-- The roll caller's state (table of chapter 7). -/
structure RollCaller where
  timer : Option Nat := none
  round : Word := 0
  inProgress : Bool := false
  due : List Name := []
  owed : Bool := false
  hand : Option RollCall := none
  rollMs : Nat := 100
  strikeLimit : Nat := 3
  keepRounds : Nat := 50
  deriving DecidableEq, Repr

/-! ### Request unit (chapter 9) -/

/-- The phases of a slot (R144). -/
inductive Phase where
  | free
  | waiting
  | onLine
  | done
  deriving DecidableEq, Repr

/-- The result codes (R151). -/
inductive Result where
  | ok
  | notRunning
  | badRequest
  | notCoupled
  | noDevice
  | notReady
  | nameBusy
  | nameTaken
  | noAnswer
  | garbled
  | decoupled
  | toolFault
  | timedOut
  | withdrawn
  | wrongState
  deriving DecidableEq, Repr

/-- The latched copy of a request that outlives its acceptance (R144). -/
inductive LineRequest where
  | read (name : Name) (addr : Word) (count : Nat)
  | write (name : Name) (addr : Word) (words : List Word)
  | move (name target : Name)
  | reseat
  deriving DecidableEq, Repr

/-- A request slot: the host's words (ASK, kind, name, argument A, count), TELL's three fields, the
data words, the latched request and the wait timer (R144, layout 11.5). -/
structure Slot where
  ask : Word := 0
  ticket : Byte := 0
  phase : Phase := .free
  result : Result := .ok
  kind : Byte := 0
  name : Byte := 0
  argA : Word := 0
  count : Word := 0
  data : Vector Word 16 := Vector.replicate 16 0
  latched : Option LineRequest := none
  wait : Option Nat := none
  deriving DecidableEq, Repr

/-- The request unit's call in hand: the slot, the attempts made, whether an attempt was GARBLED
(R71), the identity a MOVE carries and whether its CLAIM was SILENT (R153). -/
structure RequestCall where
  slot : SlotNo
  attempts : Nat := 1
  garbled : Bool := false
  ident : Identity := 0
  claimSilent : Bool := false
  deriving DecidableEq, Repr

/-- The request unit's state. -/
structure RequestUnit where
  slots : Vector Slot 8 := Vector.replicate 8 {}
  postOrder : List SlotNo := []
  hand : Option RequestCall := none
  waitMs : Nat := 500
  deriving DecidableEq, Repr

/-! ### Exchange port (chapter 8) -/

/-- The 17 parameter words (layout 11.1) with their defaults (R158). -/
structure Params where
  lineRate : Word := 2
  settleMs : Word := 20
  powerWaitMs : Word := 150
  passRetryMs : Word := 20
  rollMs : Word := 100
  strikeLimit : Word := 3
  keepRounds : Word := 50
  sweepRounds : Word := 10
  passAttempts : Word := 3
  callRetries : Word := 1
  requestWaitMs : Word := 500
  ackMask : Word := 4
  logicLimit : Word := 2000
  driveLimit : Word := 3000
  sumLimit : Word := 4500
  tripA : Word := 5
  tripB : Word := 20
  deriving DecidableEq, Repr

/-- A class map entry (R159). -/
structure ClassEntry where
  low : Byte := 1
  high : Byte := 62
  role : Byte := 0
  deriving DecidableEq, Repr

/-- The exchange port's own words: parameters, class map, the coupling record's GEN, the seen words,
RUNCTL.RUN, ALERT and ALERTMASK. -/
structure ExchangePort where
  params : Params := {}
  classMap : Vector ClassEntry 64 := Vector.replicate 64 {}
  recGen : Word := 0
  seen : Vector Word 62 := Vector.replicate 62 0
  run : Bool := false
  alert : BitVec 7 := 0
  alertMask : BitVec 7 := 0
  deriving DecidableEq, Repr

/-! ### The part -/

/-- The state of the part. `callRetries` is CALL_RETRIES in force, used by the roll caller and the request
unit (R69). `given` holds the notices a block has given and the receiving block has not yet taken, each
as the command that delivers it (log 2). `pending` is the queue of commands. -/
structure State where
  cm : CouplingMonitor
  feed : FeedSupervisor
  line : LineUnit
  walker : Walker
  dir : Directory
  roll : RollCaller
  req : RequestUnit
  port : ExchangePort
  callRetries : Nat
  given : List Instr
  pending : List Instr
  deriving DecidableEq, Repr

/-- Reasons to stop with a fault: none. No rule of the spec stops the part; its faults are states (the
coupling state FAULTED, the trips) and refusals to the host are alerts. -/
inductive Fault where
  deriving DecidableEq, Repr

/-- Reasons to refuse a command. -/
inductive Refusal where
  /-- Raised by `exec` for a row that has no meaning in the model yet; no row is left so. Safe: a refusal
  only stops the model. -/
  | notModelled (mnemonic : String)
  deriving DecidableEq, Repr

/-- The part after a hard reset (R157): every default written above is the value that R157 gathers, with
both contacts sensed open (log 9) and nothing given or queued. -/
def State.reset : State where
  cm := {}
  feed := {}
  line := {}
  walker := {}
  dir := {}
  roll := {}
  req := {}
  port := {}
  callRetries := 1
  given := []
  pending := []

end Sys2Proof.Machine
end

