-- ==== Sys2Proof/Machine/Flags.lean ====
section
/-! DEFINITION. The flags and codes of the part: the ALERT flags and the ATTN pin (R140, R141), the GEN words
(R3, R73, R142), the codes of chapter 11, the line unit's hardware (R37) and the per-state
counts (R74). -/

namespace Sys2Proof.Machine

/-- The seven ALERT flags (R140). -/
inductive Alert where
  | coupling
  | directory
  | request
  | pass
  | trip
  | misuse
  | clamped
  deriving DecidableEq, Repr

/-- The position of a flag in ALERT and ALERTMASK (section 11.6). -/
def Alert.bit : Alert → Nat
  | .coupling => 0
  | .directory => 1
  | .request => 2
  | .pass => 3
  | .trip => 4
  | .misuse => 5
  | .clamped => 6

/-- ALERT with one flag set and no other. -/
def Alert.mask (a : Alert) : BitVec 7 := 1#7 <<< a.bit

/-- Whether a flag is set in ALERT. -/
def State.alertSet (a : Alert) (s : State) : Bool := s.port.alert.getLsbD a.bit

/-- The ATTN pin is low while a flag is set in ALERT whose enable is set in ALERTMASK (R141). -/
def State.attnLow (s : State) : Bool := decide (s.port.alert &&& s.port.alertMask ≠ 0#7)

/-- A stable change advances GEN to odd and again to even, modulo 65536 (R3, R73). -/
def genAfter (g : Word) : Word := g + 1 + 1

/-- Whether a GEN is even, so that the stable words belong together (R73, R142). -/
def genEven (g : Word) : Bool := !g.getLsbD 0

/-! ### Codes (section 11.3 to 11.5) -/

def CouplingState.code : CouplingState → Nat
  | .dormant => 0
  | .opened => 1
  | .making => 2
  | .powering => 3
  | .discovering => 4
  | .serving => 5
  | .faulted => 6

def FaultCause.code : FaultCause → Nat
  | .none => 0
  | .power => 1
  | .lineHeld => 2

def TripStage.code : TripStage → Nat
  | .none => 0
  | .a => 1
  | .b => 2

def passResultCode : PassResult → Nat
  | .none => 0
  | .complete => 1
  | .incomplete => 2

def EntryState.code : EntryState → Nat
  | .vacant => 0
  | .offered => 1
  | .held => 2
  | .bound => 3
  | .stale => 4
  | .disputed => 5
  | .retiring => 6

def Phase.code : Phase → Nat
  | .free => 0
  | .waiting => 1
  | .onLine => 2
  | .done => 3

def Result.code : Result → Nat
  | .ok => 0
  | .notRunning => 1
  | .badRequest => 2
  | .notCoupled => 3
  | .noDevice => 4
  | .notReady => 5
  | .nameBusy => 6
  | .nameTaken => 7
  | .noAnswer => 8
  | .garbled => 9
  | .decoupled => 10
  | .toolFault => 11
  | .timedOut => 12
  | .withdrawn => 13
  | .wrongState => 14

/-! ### Coupling states in which the line or a coupling stands -/

/-- The coupling is DISCOVERING or SERVING, the states in which the line is active (R4). -/
def CouplingState.lineOn : CouplingState → Bool
  | .discovering => true
  | .serving => true
  | _ => false

/-- The coupling is POWERING, DISCOVERING or SERVING, the states a coupling can be lost from (R13, R14). -/
def CouplingState.coupled : CouplingState → Bool
  | .powering => true
  | .discovering => true
  | .serving => true
  | _ => false

/-! ### Views of the line unit's hardware -/

/-- What the transmitter does (R35, R38, R46). -/
inductive Transmitter where
  | released
  | drivingLow
  | frame (call : Call)
  deriving DecidableEq, Repr

/-- What the receiver does where no character is being assembled (R39, R41, R42). -/
inductive Receiver where
  | off
  | waiting
  deriving DecidableEq, Repr

/-- The transmitter drives the line low during a clear's first part and sends its own characters during a
call; at every other moment it releases the line (R35, R46). -/
def State.transmitter (s : State) : Transmitter :=
  match s.line.flight with
  | .clearLow => .drivingLow
  | .releasing n => .frame (.release n)
  | .sending _ c => .frame c
  | _ => .released

/-- The receiver at `t` bit times after the last call was sent (R38, R41, R42, R46, R70): it waits for an answer from time
0 on, it is off from a seek's time 0 to the start of window 0 at time 12 and waits in the windows, and it is off
where no answer is awaited. No command stands for time 12, so the time is an argument (log 7). -/
def State.receiver (s : State) (t : Nat) : Receiver :=
  match s.line.flight with
  | .listening _ _ => .waiting
  | .windows _ => if t < Config.windowsStart then .off else .waiting
  | _ => .off

/-- The window at whose end the running window timer gives the next WINDOW_END; `none` where the timer is stopped
(R42). It runs from a seek's time 0, so that window 0 comes next in the 12 bit times before its start too. -/
def State.windowTimer (s : State) : Option Nat :=
  match s.line.flight with
  | .windows heard => some heard.length
  | _ => none

/-- The length of a bit at a line rate, in microseconds (R36). -/
def LineRate.bitMicros : LineRate → Nat
  | .k250 => 4
  | .k500 => 2
  | .k1000 => 1

/-- The per-state entry counts of the coupling record (R74). -/
def State.stateCount (s : State) (st : EntryState) : Nat :=
  allNames.countP fun n => decide (s.dir.entries[n].state = st)

end Sys2Proof.Machine
end

