-- ==== Sys2Proof/Machine/Ops.lean ====
section
/-! DEFINITION. The named operations every meaning is written over: raising an alert, giving and taking a
notice, reading and writing an entry or a slot, and the stable changes of the coupling record and of an
entry. -/

namespace Sys2Proof.Machine

/-- A block raises an ALERT flag; a flag already set stays set (R140). -/
def State.raise (a : Alert) (s : State) : State :=
  { s with port := { s.port with alert := s.port.alert ||| a.mask } }

/-- A block gives notices, in the order listed; each waits to be taken (log 2). -/
def State.give (l : List Instr) (s : State) : State :=
  { s with given := s.given ++ l }

/-- The receiving block takes a notice: it no longer waits (log 2). -/
def State.take (c : Instr) (s : State) : State :=
  { s with given := s.given.erase c }

/-! ### Entries -/

/-- Entry n. -/
def State.entry (s : State) (n : Name) : Entry := s.dir.entries[n]

/-- Entry n replaced whole. -/
def State.putEntry (n : Name) (e : Entry) (s : State) : State :=
  { s with dir := { s.dir with entries := s.dir.entries.set n.val e n.isLt } }

/-- A stable change of entry n: GEN odd, the fields written, GEN even, ALERT.DIRECTORY (R73). The GEN of `e`
is not used. -/
def State.stableEntry (n : Name) (e : Entry) (s : State) : State :=
  (s.putEntry n { e with gen := genAfter (s.entry n).gen }).raise .directory

/-- Live writes of entry n: STAMP, STRIKES and KEEP alone, no GEN, no alert (R74). -/
def State.liveEntry (n : Name) (stamp : Word) (strikes keep : Nat) (s : State) : State :=
  s.putEntry n { s.entry n with stamp := stamp, strikes := strikes, keep := keep }

/-- A change of many entries in one event: `f` gives the new content of each entry that changes, and each
of them receives its own stable change (R73, R94, R95). -/
def State.stableAll (f : Name → Entry → Option Entry) (s : State) : State :=
  let s' := { s with dir := { s.dir with
    entries := Vector.ofFn fun n =>
      match f n (s.entry n) with
      | some e => { e with gen := genAfter (s.entry n).gen }
      | none => s.entry n } }
  if allNames.any fun n => (f n (s.entry n)).isSome then s'.raise .directory else s'

/-! ### Slots -/

/-- Slot k. -/
def State.slot (s : State) (k : SlotNo) : Slot := s.req.slots[k]

/-- Slot k replaced whole. -/
def State.putSlot (k : SlotNo) (t : Slot) (s : State) : State :=
  { s with req := { s.req with slots := s.req.slots.set k.val t k.isLt } }

/-! ### The coupling record -/

/-- The five fields of the coupling record that the coupling monitor writes (R3). -/
def CouplingMonitor.recordFields (c : CouplingMonitor) :
    CouplingState × Bool × Bool × Bool × FaultCause :=
  (c.state, c.shownFirst, c.shownLast, c.partialMate, c.cause)

/-- The stable fields of the coupling record that the feed supervisor writes (R20, section 8.9). -/
def FeedSupervisor.recordFields (f : FeedSupervisor) :
    Bool × Bool × Bool × Bool × Nat × Nat × TripRecord :=
  (f.logicOn, f.driveOn, f.latch, f.pedHigh, f.pedLogic, f.pedDrive, f.trip)

/-- One stable change of the coupling record: its GEN advances by 2 and one alert is raised (R142). -/
def State.recordChange (a : Alert) (s : State) : State :=
  State.raise a { s with port := { s.port with recGen := genAfter s.port.recGen } }

/-- An event at the coupling monitor leaves it as `c`; where that changes one of the record's five fields,
the event makes one stable change and raises ALERT.COUPLING, and otherwise none (R3). -/
def State.setMonitor (c : CouplingMonitor) (s : State) : State :=
  let s' := { s with cm := c }
  if c.recordFields = s.cm.recordFields then s' else s'.recordChange .coupling

/-- An event at the feed supervisor leaves it as `f`; where that changes a stable field, the event makes one
stable change and raises `a`, and otherwise none (R20). -/
def State.setFeed (a : Alert) (f : FeedSupervisor) (s : State) : State :=
  let s' := { s with feed := f }
  if f.recordFields = s.feed.recordFields then s' else s'.recordChange a

/-- The coupling-lost notice to each of the six blocks (R12). -/
def lossNotices (r : LossReason) : List Instr :=
  [.feedCouplingLost r, .lineCouplingLost r, .walkerCouplingLost r, .directoryCouplingLost r,
   .rollCouplingLost r, .requestCouplingLost r]

/-- The result with which requests end at a loss of the coupling (R12, R156). -/
def lossResult : LossReason → Result
  | .decoupled => .decoupled
  | .faulted => .toolFault
  | .hold => .notRunning

/-! ### Lists of names -/

/-- A name joins an ascending list, each name at most once (R48). -/
def insertName (n : Name) : List Name → List Name
  | [] => [n]
  | m :: rest => if n < m then n :: m :: rest else if n = m then m :: rest else m :: insertName n rest

/-- A name owed a release joins the release list (R48, R76). -/
def State.joinRelease (n : Name) (s : State) : State :=
  { s with line := { s.line with releases := insertName n s.line.releases } }

/-- A name leaves the release list (R48). -/
def State.leaveRelease (n : Name) (s : State) : State :=
  { s with line := { s.line with releases := s.line.releases.filter (fun m => m ≠ n) } }

end Sys2Proof.Machine
end

