-- ==== Sys2Proof/Machine/Operands.lean ====
section
/-! DEFINITION. The word layouts of chapter 11 and the addressed view of the exchange memory and the registers
(R133, R134), the fields of an ASK write (R145, R163), and the ranges of the parameters (R158, R160). -/

namespace Sys2Proof.Machine

/-! ### Parameters (R158, section 11.1) -/

/-- The used parameter word at a position of the parameter area; `none` from 0x011 on. -/
def Params.word? (p : Params) : Nat → Option Word
  | 0 => some p.lineRate
  | 1 => some p.settleMs
  | 2 => some p.powerWaitMs
  | 3 => some p.passRetryMs
  | 4 => some p.rollMs
  | 5 => some p.strikeLimit
  | 6 => some p.keepRounds
  | 7 => some p.sweepRounds
  | 8 => some p.passAttempts
  | 9 => some p.callRetries
  | 10 => some p.requestWaitMs
  | 11 => some p.ackMask
  | 12 => some p.logicLimit
  | 13 => some p.driveLimit
  | 14 => some p.sumLimit
  | 15 => some p.tripA
  | 16 => some p.tripB
  | _ => none

/-- A used parameter word stored as the host wrote it, ACK_MASK with its unused bits as 0 (R134, R158). -/
def Params.store (p : Params) (v : Word) : Nat → Params
  | 0 => { p with lineRate := v }
  | 1 => { p with settleMs := v }
  | 2 => { p with powerWaitMs := v }
  | 3 => { p with passRetryMs := v }
  | 4 => { p with rollMs := v }
  | 5 => { p with strikeLimit := v }
  | 6 => { p with keepRounds := v }
  | 7 => { p with sweepRounds := v }
  | 8 => { p with passAttempts := v }
  | 9 => { p with callRetries := v }
  | 10 => { p with requestWaitMs := v }
  | 11 => { p with ackMask := v &&& 0x000F#16 }
  | 12 => { p with logicLimit := v }
  | 13 => { p with driveLimit := v }
  | 14 => { p with sumLimit := v }
  | 15 => { p with tripA := v }
  | 16 => { p with tripB := v }
  | _ => p

/-- A word brought to the nearer end of its range (R160). -/
def clampWord (lo hi : Nat) (w : Word) : Word := BitVec.ofNat 16 (clampNat lo hi w.toNat)

/-- The count order of R32: TRIP_B_COUNT above TRIP_A_COUNT. -/
def tripBAbove (a b : Word) : Word := if b.toNat ≤ a.toNat then a + 1 else b

/-- The two steps that limits and counts pass through before they come into force (R32). -/
def clampLimits (logic drive sum a b : Word) : Word × Word × Word × Word × Word :=
  let a' := clampWord 1 254 a
  (clampWord 1 4095 logic, clampWord 1 4095 drive, clampWord 1 8190 sum, a',
   tripBAbove a' (clampWord 2 255 b))

/-- The ranges of a RETIME's four values (R130). -/
def clampTimes (rollMs strikes keep sweep : Word) : Word × Word × Word × Word :=
  (clampWord 10 10000 rollMs, clampWord 1 15 strikes, clampWord 1 255 keep, clampWord 0 255 sweep)

/-- Step 1 of the RUN entry clamp: every used parameter word in its range, then the count order (R160). -/
def Params.clamped (p : Params) : Params :=
  let (logic, drive, sum, a, b) := clampLimits p.logicLimit p.driveLimit p.sumLimit p.tripA p.tripB
  let (rollMs, strikes, keep, sweep) := clampTimes p.rollMs p.strikeLimit p.keepRounds p.sweepRounds
  { lineRate := clampWord 0 2 p.lineRate
    settleMs := clampWord 1 250 p.settleMs
    powerWaitMs := clampWord 1 2000 p.powerWaitMs
    passRetryMs := clampWord 1 1000 p.passRetryMs
    rollMs := rollMs
    strikeLimit := strikes
    keepRounds := keep
    sweepRounds := sweep
    passAttempts := clampWord 1 8 p.passAttempts
    callRetries := clampWord 0 3 p.callRetries
    requestWaitMs := clampWord 1 60000 p.requestWaitMs
    ackMask := p.ackMask
    logicLimit := logic
    driveLimit := drive
    sumLimit := sum
    tripA := a
    tripB := b }

/-- Step 2 of the RUN entry clamp for one class map entry (R160). -/
def ClassEntry.clamped (c : ClassEntry) : ClassEntry :=
  if c.low.toNat ≤ c.high.toNat ∧ 1 ≤ c.low.toNat ∧ c.high.toNat ≤ 62 then c
  else { c with low := 1, high := 62 }

/-- The line rate a LINE_RATE chooses (R36). -/
def lineRateOf (w : Word) : LineRate :=
  match w.toNat with
  | 0 => .k250
  | 1 => .k500
  | _ => .k1000

/-- The four bits of an ACK_MASK word (section 11.1). -/
def ackMaskOf (w : Word) : AckMask where
  join := w.getLsbD 0
  ret := w.getLsbD 1
  depart := w.getLsbD 2
  conflict := w.getLsbD 3

/-- The limits and counts in force that five words give (R32). -/
def limitsOf (logic drive sum a b : Word) : Limits where
  logic := logic.toNat
  drive := drive.toNat
  sum := sum.toNat
  tripA := a.toNat
  tripB := b.toNat

/-! ### ASK (section 11.5, R163) -/

/-- The intent of an ASK write. -/
inductive Intent where
  | post
  | withdraw
  | other
  deriving DecidableEq, Repr

/-- The intent in bits 9–8 of an ASK word. -/
def askIntent (w : Word) : Intent :=
  match (w.extractLsb' 8 2).toNat with
  | 1 => .post
  | 2 => .withdraw
  | _ => .other

/-- The ticket in bits 7–0 of an ASK word. -/
def askTicket (w : Word) : Byte := w.extractLsb' 0 8

/-- The ASK word with an intent code and a ticket. -/
def askWord (intent : Nat) (ticket : Byte) : Word := BitVec.ofNat 16 (intent * 256 + ticket.toNat)

/-! ### The words the host reads -/

/-- The coupling word (section 11.3). -/
def CouplingMonitor.word (c : CouplingMonitor) : Word :=
  BitVec.ofNat 16 (c.state.code + bitOf c.shownFirst 4 + bitOf c.shownLast 5 + bitOf c.partialMate 6
    + 256 * c.cause.code)

/-- The feed word (section 11.3). -/
def FeedSupervisor.word (f : FeedSupervisor) : Word :=
  BitVec.ofNat 16 (bitOf f.logicOn 0 + bitOf f.driveOn 1 + bitOf f.latch 2 + bitOf f.pedHigh 3)

/-- The trip word (section 11.3). -/
def TripRecord.word (t : TripRecord) : Word :=
  BitVec.ofNat 16 (t.stage.code + bitOf t.causes.logic 4 + bitOf t.causes.drive 5 + bitOf t.causes.sum 6
    + 256 * t.runLength)

/-- The words of the coupling record from 0x0C0 (section 11.3). -/
def State.recordWord (s : State) : Nat → Word
  | 0x00 => s.port.recGen
  | 0x01 => s.cm.word
  | 0x02 => s.feed.word
  | 0x03 => BitVec.ofNat 16 s.feed.pedLogic
  | 0x04 => BitVec.ofNat 16 s.feed.pedDrive
  | 0x05 => s.feed.trip.word
  | 0x06 => BitVec.ofNat 16 s.feed.trip.readings.rawLogic
  | 0x07 => BitVec.ofNat 16 s.feed.trip.readings.rawDrive
  | 0x08 => BitVec.ofNat 16 s.feed.trip.readings.corrLogic
  | 0x09 => BitVec.ofNat 16 s.feed.trip.readings.corrDrive
  | 0x0A => BitVec.ofNat 16 s.feed.trip.readings.sum
  | 0x0B => s.walker.record.number
  | 0x0C => BitVec.ofNat 16 (passResultCode s.walker.record.result)
  | 0x0D => BitVec.ofNat 16 s.walker.record.counts.seeks
  | 0x0E => BitVec.ofNat 16 s.walker.record.counts.found
  | 0x0F => BitVec.ofNat 16 s.walker.record.counts.returned
  | 0x10 => BitVec.ofNat 16 s.walker.record.counts.reclaimed
  | 0x11 => BitVec.ofNat 16 s.walker.record.counts.phantom
  | 0x12 => BitVec.ofNat 16 s.walker.record.counts.unresolved
  | 0x13 => BitVec.ofNat 16 s.walker.record.counts.dropped
  | 0x14 => BitVec.ofNat 16 s.walker.record.counts.noRoom
  | 0x18 => BitVec.ofNat 16 s.feed.live.rawLogic
  | 0x19 => BitVec.ofNat 16 s.feed.live.rawDrive
  | 0x1A => BitVec.ofNat 16 s.feed.live.corrLogic
  | 0x1B => BitVec.ofNat 16 s.feed.live.corrDrive
  | 0x1C => BitVec.ofNat 16 s.feed.live.sum
  | 0x1D => s.roll.round
  | 0x20 => BitVec.ofNat 16 (s.stateCount .vacant)
  | 0x21 => BitVec.ofNat 16 (s.stateCount .offered)
  | 0x22 => BitVec.ofNat 16 (s.stateCount .held)
  | 0x23 => BitVec.ofNat 16 (s.stateCount .bound)
  | 0x24 => BitVec.ofNat 16 (s.stateCount .stale)
  | 0x25 => BitVec.ofNat 16 (s.stateCount .disputed)
  | 0x26 => BitVec.ofNat 16 (s.stateCount .retiring)
  | _ => 0

/-- The eight words of a directory entry (section 11.4). -/
def Entry.word (e : Entry) : Nat → Word
  | 0 => e.gen
  | 1 => BitVec.ofNat 16 (256 * e.devstat.toNat + bitOf e.owed 7 + bitOf e.outside 6 + bitOf e.conflict 5
      + bitOf e.sticky 4 + e.state.code)
  | 2 => e.ident.extractLsb' 32 16
  | 3 => e.ident.extractLsb' 16 16
  | 4 => e.ident.extractLsb' 0 16
  | 5 => BitVec.ofNat 16 (256 * e.role.toNat + e.cls.toNat)
  | 6 => e.stamp
  | 7 => BitVec.ofNat 16 (256 * e.keep + e.strikes)
  | _ => 0

/-- TELL (section 11.5). -/
def Slot.tell (t : Slot) : Word :=
  BitVec.ofNat 16 (1024 * t.result.code + 256 * t.phase.code + t.ticket.toNat)

/-- The 32 words of a request slot (section 11.5). -/
def Slot.word (t : Slot) (k : Nat) : Word :=
  match k with
  | 0 => t.ask
  | 1 => t.tell
  | 2 => BitVec.ofNat 16 (256 * t.name.toNat + t.kind.toNat)
  | 3 => t.argA
  | 4 => t.count
  | _ => if h : 8 ≤ k ∧ k < 24 then t.data[k - 8]'(by omega) else 0

/-- The two words of a class map entry (section 11.2). -/
def ClassEntry.word (c : ClassEntry) : Nat → Word
  | 0 => BitVec.ofNat 16 (256 * c.high.toNat + c.low.toNat)
  | _ => BitVec.ofNat 16 c.role.toNat

/-- The areas of section 8.2, with the position inside each. `unlisted` is a word that no area lists. -/
inductive Area where
  | param (k : Nat)
  | classMap (entry : Fin 64) (k : Nat)
  | record (k : Nat)
  | seen (name : Name)
  | directory (name : Name) (k : Nat)
  | slot (slot : SlotNo) (k : Nat)
  | ident
  | runctl
  | alert
  | alertmask
  | unlisted
  deriving DecidableEq, Repr

/-- The area a word address lies in (section 8.2). Unused words of the parameter area and of a slot are
`unlisted` (R134). -/
def areaOf (addr : BitVec 11) : Area :=
  let a := addr.toNat
  if a < 0x011 then .param a
  else if a < 0x040 then .unlisted
  else if h : 0x040 ≤ a ∧ a < 0x0C0 then .classMap ⟨(a - 0x040) / 2, by omega⟩ ((a - 0x040) % 2)
  else if a < 0x100 then .record (a - 0x0C0)
  else if h : 0x101 ≤ a ∧ a ≤ 0x13E then .seen ⟨a - 0x101, by omega⟩
  else if h : 0x208 ≤ a ∧ a ≤ 0x3F7 then .directory ⟨(a - 0x208) / 8, by omega⟩ ((a - 0x208) % 8)
  else if h : 0x400 ≤ a ∧ a < 0x500 then
    let k := (a - 0x400) % 32
    if k ≤ 4 ∨ (8 ≤ k ∧ k < 24) then .slot ⟨(a - 0x400) / 32, by omega⟩ k else .unlisted
  else if a = 0x500 then .ident
  else if a = 0x501 then .runctl
  else if a = 0x502 then .alert
  else if a = 0x503 then .alertmask
  else .unlisted

/-- What a host read of a word address returns (R133, R134); a read changes no state. -/
def State.readWord (s : State) (addr : BitVec 11) : Word :=
  match areaOf addr with
  | .param k => (s.port.params.word? k).getD 0
  | .classMap c k => s.port.classMap[c].word k
  | .record k => s.recordWord k
  | .seen n => s.port.seen[n]
  | .directory n k => (s.entry n).word k
  | .slot j k => (s.slot j).word k
  | .ident => Config.identWord
  | .runctl => BitVec.ofNat 16 (bitOf s.port.run 0)
  | .alert => s.port.alert.setWidth 16
  | .alertmask => s.port.alertMask.setWidth 16
  | .unlisted => 0

/-- Whether the host is the writer of a word at this moment (section 8.2, R134, R135). -/
def State.hostWrites (s : State) (addr : BitVec 11) : Bool :=
  match areaOf addr with
  | .param _ => !s.port.run
  | .classMap _ _ => !s.port.run
  | .seen _ => true
  | .slot j k =>
    if k = 1 then false
    else if k ≤ 4 then true
    else decide ((s.slot j).phase = .free ∨ (s.slot j).phase = .done)
  | .runctl => true
  | .alert => true
  | .alertmask => true
  | .record _ => false
  | .directory _ _ => false
  | .ident => false
  | .unlisted => false

end Sys2Proof.Machine
end

