-- ==== Sys2Proof/Machine/Frames.lean ====
section
/-! DEFINITION. What travels on the coupling line: identities as bytes and digits, characters (R35), the check
(R40), the call frames (R38, R60, R61, section 11.7), the receiver (R39), and the classification of
answers (R41, R63, R65 to R67) and of seek windows (R42, R43). -/

namespace Sys2Proof.Machine

/-! ### Identities and prefixes -/

/-- Digit dk of an identity, d0 the most significant (convention 5). -/
def digitAt (i : Identity) (k : Nat) : Digit := i.extractLsb' (44 - 4 * k) 4

/-- The twelve digits of an identity, d0 first. -/
def identityDigits (i : Identity) : List Digit := (List.range 12).map (digitAt i)

/-- The six characters that carry an identity, the most significant byte first (R59). -/
def identityBytes (i : Identity) : List Byte := (List.range 6).map fun k => i.extractLsb' (40 - 8 * k) 8

/-- The identity that six characters carry (R59). -/
def identityOfBytes (bs : List Byte) : Identity :=
  bs.foldl (fun acc b => (acc <<< 8) ||| b.setWidth 48) 0

/-- The identity whose digits are given, d0 first. -/
def identityOfDigits (ds : List Digit) : Identity :=
  ds.foldl (fun acc d => (acc <<< 4) ||| d.setWidth 48) 0

/-- The prefix characters of a seek: laid out like an identity with every digit from d(L) on 0 (R61). -/
def prefixIdentity (p : Prefix) : Identity :=
  identityOfDigits (p ++ List.replicate (12 - p.length) 0)

/-- The leading digits of an identity equal a prefix. -/
def hasPrefix (i : Identity) (p : Prefix) : Bool := (identityDigits i).take p.length = p

/-! ### Characters and frames -/

/-- A character the part sends: its value and its marker (R35). -/
structure TxChar where
  value : Byte
  marker : Bool
  deriving DecidableEq, Repr

/-- The eleven levels of a character, high as `true`: start bit, data bits 0 to 7, marker, stop bit (R35). -/
def TxChar.levels (c : TxChar) : List Bool :=
  false :: (List.range 8).map (fun k => c.value.getLsbD k) ++ [c.marker, true]

/-- Each bit on the line is low if any party drives it low (R35). -/
def lineAnd (a b : List Bool) : List Bool := List.zipWith (· && ·) a b

/-- The check of a frame: 255 minus the sum, modulo 256, of the values before it (R40). -/
def checkOf (vals : List Byte) : Byte :=
  BitVec.ofNat 8 (255 - (vals.map BitVec.toNat).sum % 256)

/-- The two characters of a word, the more significant byte first (R59). -/
def wordBytes (w : Word) : List Byte := [w.extractLsb' 8 8, w.extractLsb' 0 8]

/-- The words that pairs of characters carry (R66). -/
def wordsOfBytes : List Byte → List Word
  | hi :: lo :: rest => (hi ++ lo : BitVec (8 + 8)) :: wordsOfBytes rest
  | _ => []

/-- The character that carries a name. -/
def nameByte (n : Name) : Byte := BitVec.ofNat 8 (nameNum n)

/-- The values of a call before its check: target, kind, arguments (section 4.2, section 11.7). -/
def Call.values : Call → List Byte
  | .seek p => [0, 0x01, BitVec.ofNat 8 p.length] ++ identityBytes (prefixIdentity p)
  | .claim i n => [0, 0x02] ++ identityBytes i ++ [nameByte n]
  | .roll n => [nameByte n, 0x03]
  | .read n a c => [nameByte n, 0x04] ++ wordBytes a ++ [BitVec.ofNat 8 c]
  | .write n a ws => [nameByte n, 0x05] ++ wordBytes a ++ [BitVec.ofNat 8 ws.length] ++ ws.flatMap wordBytes
  | .release n => [nameByte n, 0x06]

/-- The frame the line unit sends: the values with the check appended, the marker on the first character
alone (R38, R60). -/
def Call.frame (c : Call) : List TxChar :=
  match c.values ++ [checkOf c.values] with
  | [] => []
  | v :: vs => ⟨v, true⟩ :: vs.map fun x => ⟨x, false⟩

/-- The characters of an ordinary call's answer, check included (section 4.2, R60); 0 where none is expected. -/
def Call.answerLength : Call → Nat
  | .seek _ => 0
  | .claim _ _ => 9
  | .roll _ => 9
  | .read _ _ c => 2 * c + 1
  | .write _ _ _ => 2
  | .release _ => 0

/-! ### The receiver -/

/-- A character received: its value, its marker, and whether it was well framed (R39). -/
structure RxChar where
  value : Byte
  marker : Bool
  framed : Bool
  deriving DecidableEq, Repr

/-- The character that a falling edge with a validated start bit gives (R39). -/
def heardChar (e : LineEdge) : RxChar := ⟨e.value, e.marker, e.stopHigh⟩

/-- The characters received after an ordinary call (R39, R41). `remaining` characters are still to come;
the receiver looks for a falling edge from `ready` on; a start bit validated after `by_` comes too late.
An edge whose half-bit sample is high is a false start. An edge taken while a character is being
assembled is not looked for. -/
def receiveAnswer (remaining ready by_ : Nat) : List LineEdge → List RxChar
  | [] => []
  | e :: es =>
    if remaining = 0 then []
    else if e.time < ready then receiveAnswer remaining ready by_ es
    else if by_ < e.time + Config.validateAfter then []
    else if e.low then
      heardChar e :: receiveAnswer (remaining - 1) (e.time + Config.stopAfter)
        (e.time + Config.stopAfter + Config.shortGap) es
    else receiveAnswer remaining (e.time + Config.validateAfter) by_ es

/-- The characters received in a seek window, and whether a start bit was validated whose character was
not received before the window's end (R42, R43). Times count from the window's start, at which the
receiver is reset. A candidate whose half-bit sample would fall at or after the end is discarded. -/
def receiveWindow (ready : Nat) : List LineEdge → List RxChar × Bool
  | [] => ([], false)
  | e :: es =>
    if e.time < ready then receiveWindow ready es
    else if Config.windowLength ≤ e.time + Config.validateAfter then ([], false)
    else if e.low then
      if Config.windowLength ≤ e.time + Config.stopAfter then ([], true)
      else
        let (cs, open_) := receiveWindow (e.time + Config.stopAfter) es
        (heardChar e :: cs, open_)
    else receiveWindow (e.time + Config.validateAfter) es

/-! ### Classification -/

/-- No character has a framing error or its marker set, and the check compares equal (R40, R41, R43). -/
def charsClean (cs : List RxChar) : Bool :=
  let vals := cs.map RxChar.value
  cs.all (fun c => c.framed && !c.marker) && decide (vals.getLast? = some (checkOf vals.dropLast))

/-- The class of an answer, with the values of the characters received before the check for every class but
SILENT (R41). -/
inductive Answer where
  | silent
  | clean (vals : List Byte)
  | garbled (vals : List Byte)
  deriving DecidableEq, Repr

/-- An answer is GARBLED (R41). -/
def Answer.isGarbled : Answer → Bool
  | .garbled _ => true
  | _ => false

/-- The values of the characters received before the check of an answer of `count` characters (R41). -/
def valuesBeforeCheck (count : Nat) (cs : List RxChar) : List Byte := (cs.map RxChar.value).take (count - 1)

/-- The class of an answer of `count` characters from the characters received (R41): none is SILENT, a full
count that passes is CLEAN, anything else GARBLED. -/
def classifyAnswer (count : Nat) (cs : List RxChar) : Answer :=
  if cs = [] then .silent
  else if cs.length = count ∧ charsClean cs = true then .clean (valuesBeforeCheck count cs)
  else .garbled (valuesBeforeCheck count cs)

/-- The characters received after an ordinary call, from the falling edges after the call (R39, R41). -/
def answerChars (c : Call) (edges : List LineEdge) : List RxChar :=
  receiveAnswer c.answerLength 0 Config.answerLimit edges

/-- What the line unit hands the claimant for an ordinary call, from the falling edges after the call (R41). -/
def hearAnswer (c : Call) (edges : List LineEdge) : Answer :=
  classifyAnswer c.answerLength (answerChars c edges)

/-- The raw class of a seek window from what was received in it (R43). -/
def classifyWindow (cs : List RxChar) (open_ : Bool) : Window :=
  if cs = [] ∧ open_ = false then .silent
  else if cs.length = 8 ∧ open_ = false ∧ charsClean cs = true then
    let vals := cs.map RxChar.value
    .clean (identityOfBytes (vals.take 6)) (vals.getD 6 0)
  else .garbled

/-- The raw class of a seek window from its falling edges (R42, R43). -/
def hearWindow (edges : List LineEdge) : Window :=
  let (cs, open_) := receiveWindow 0 edges
  classifyWindow cs open_

/-! ### Claims and rolls as their claimants read them -/

/-- The outcome of a CLAIM (R63). -/
inductive ClaimHeard where
  | accepted
  | mismatched
  | silent
  | garbled
  deriving DecidableEq, Repr

/-- The outcome of a CLAIM of a name for an identity (R63). The class byte takes no part. -/
def claimHeard (i : Identity) (n : Name) : Answer → ClaimHeard
  | .silent => .silent
  | .garbled _ => .garbled
  | .clean vals =>
    if identityOfBytes (vals.take 6) = i ∧ vals.getD 7 0 = nameByte n then .accepted else .mismatched

/-- The identity and status of a CLEAN roll answer (R65). -/
def rollIdentity (vals : List Byte) : Identity := identityOfBytes (vals.take 6)

/-- The status byte of a CLEAN roll answer (R65). -/
def rollStatus (vals : List Byte) : Byte := vals.getD 7 0

/-- The claim result that a verifying ROLL gives, with its status for a success (R64). -/
def verifyResult (i : Identity) : Answer → ClaimResult × Option Byte
  | .clean vals => if rollIdentity vals = i then (.success, some (rollStatus vals)) else (.dispute, none)
  | .silent => (.failure, none)
  | .garbled _ => (.failure, none)

end Sys2Proof.Machine
end

