-- ==== Sys2Proof/Machine/DirectoryOps.lean ====
section
/-! DEFINITION. The directory unit's operations (chapter 5): owed releases, name choice, claim and MOVE outcomes,
disputes, roll reports, acknowledgements, and the line clear and coupling-lost rules. -/

namespace Sys2Proof.Machine

/-- An entry whose every field but GEN is 0, with RELEASE_OWED as given (R72). -/
def vacantEntry (owed : Bool) : Entry := { owed := owed }

/-- Entry n becomes VACANT, in one stable change, and no release is owed. -/
def State.vacate (n : Name) (s : State) : State := s.stableEntry n (vacantEntry false)

/-- Entry n becomes VACANT with RELEASE_OWED, in one stable change, and n joins the release list (R76). -/
def State.vacateOwed (n : Name) (s : State) : State :=
  (s.stableEntry n (vacantEntry true)).joinRelease n

/-- What a departing device leaves, by ACK_MASK.DEPART: RETIRING with KEEP 0, or VACANT with RELEASE_OWED
(R78, R82, R91). -/
def State.depart (n : Name) (s : State) : State :=
  if s.dir.ackMask.depart then
    s.stableEntry n { s.entry n with state := .retiring, strikes := 0, keep := 0 }
  else s.vacateOwed n

/-- Entry n becomes DISPUTED: CONFLICT and RELEASE_OWED set, STRIKES and KEEP 0, a release owed, the
dispute notice given to the walker (R87). -/
def State.disputeEntry (n : Name) (s : State) : State :=
  ((s.stableEntry n { s.entry n with
      state := .disputed, conflict := true, owed := true, strikes := 0, keep := 0 }).joinRelease n).give
    [.passWantedNotice .dispute]

/-- What the resolution of a dispute leaves (R77): RETIRING with its fields, or VACANT, RELEASE_OWED clear. -/
def resolvedDispute (m : AckMask) (e : Entry) : Entry :=
  if m.conflict then { e with state := .retiring, owed := false } else vacantEntry false

/-- The release-sent notice for name n (R77). -/
def State.takeReleaseSent (n : Name) (s : State) : State :=
  let e := s.entry n
  match e.state with
  | .vacant => if e.owed then s.stableEntry n { e with owed := false } else s
  | .disputed => s.stableEntry n (resolvedDispute s.dir.ackMask e)
  | _ => s

/-! ### Acknowledgement (R79) -/

/-- The comparison of a seen word's value with entry n's GEN, and its effect (R79). -/
def State.acknowledge (n : Name) (v : Word) (s : State) : State :=
  let e := s.entry n
  if v = e.gen then
    match e.state with
    | .held => s.stableEntry n { e with state := .bound }
    | .retiring => s.vacateOwed n
    | _ => s
  else s

/-! ### Name choice (R81 to R83) -/

/-- The results of name choice (section 5.5). -/
inductive NameChoice where
  | reclaim (n : Name)
  | ret (n : Name)
  | new (n : Name)
  | evicted
  | noRoom
  | busy
  deriving DecidableEq, Repr

/-- The class map entry of a class: min(C, 63) (R81, R159). -/
def State.classEntry (c : Byte) (s : State) : ClassEntry :=
  s.port.classMap[min c.toNat 63]'(by omega)

/-- Whether a name lies in a class map entry's LOW to HIGH. -/
def ClassEntry.covers (ce : ClassEntry) (n : Name) : Bool :=
  decide (ce.low.toNat ≤ nameNum n ∧ nameNum n ≤ ce.high.toNat)

/-- An entry name choice may offer afresh: VACANT with RELEASE_OWED clear (R81). -/
def Entry.isFree (e : Entry) : Bool := decide (e.state = .vacant) && !e.owed

/-- The entry outside VACANT that holds an identity (R81 step 1); by R72 at most one. -/
def State.holder (i : Identity) (s : State) : Option Name :=
  allNames.find? fun n => decide ((s.entry n).state ≠ .vacant ∧ (s.entry n).ident = i)

/-- The lowest free name in the class's range (R81 step 2). -/
def State.freeInRange (c : Byte) (s : State) : Option Name :=
  allNames.find? fun n => (s.entry n).isFree && (s.classEntry c).covers n

/-- The lowest free name (R81 step 3). -/
def State.freeAny (s : State) : Option Name :=
  allNames.find? fun n => (s.entry n).isFree

/-- Of the names listed, the STALE entry with the smallest KEEP, the first among equals (R82). -/
def State.leastKeep (s : State) : List Name → Option Name
  | [] => none
  | n :: rest =>
    match s.leastKeep rest with
    | none => if (s.entry n).state = .stale then some n else none
    | some m =>
      if (s.entry n).state = .stale ∧ (s.entry n).keep ≤ (s.entry m).keep then some n else some m

/-- The entry an eviction takes, if there is one (R82). -/
def State.victim (s : State) : Option Name := s.leastKeep allNames

/-- What name choice answers for candidate I of class C, before any entry changes (R81, R82). -/
def State.nameChoice (i : Identity) (c : Byte) (s : State) : NameChoice :=
  match s.holder i with
  | some n =>
    match (s.entry n).state with
    | .bound => .reclaim n
    | .held => .reclaim n
    | .stale => .ret n
    | .retiring => .ret n
    | _ => .busy
  | none =>
    match s.freeInRange c with
    | some n => .new n
    | none =>
      match s.freeAny with
      | some n => .new n
      | none => if s.victim.isSome then .evicted else .noRoom

/-- The offer record filled for entry n (R83). -/
def State.recordOffer (n : Name) (i : Identity) (k : OfferKind) (prior : Entry) (s : State) : State :=
  { s with dir := { s.dir with offer := some ⟨n, i, k, prior⟩ } }

/-- The offer record emptied. -/
def State.clearOffer (s : State) : State := { s with dir := { s.dir with offer := none } }

/-- The eviction of an entry (R82). -/
def State.evict (s : State) : Option Name → State
  | some n => s.depart n
  | none => s

/-- The changes that come with a result of name choice (R82, R83). -/
def State.makeOffer (i : Identity) (c : Byte) (s : State) : NameChoice → State
  | .new n =>
    let e := s.entry n
    (s.stableEntry n
      { state := .offered, ident := i, cls := c, role := (s.classEntry c).role
        outside := !(s.classEntry c).covers n }).recordOffer n i .new e
  | .ret n =>
    let e := s.entry n
    (s.stableEntry n { e with
      state := .offered, ident := i, cls := c, role := (s.classEntry c).role
      strikes := 0, keep := 0 }).recordOffer n i .ret e
  | .reclaim n => s.recordOffer n i .reclaim (s.entry n)
  | .evicted => s.evict s.victim
  | .noRoom => s
  | .busy => s

/-! ### Outcomes of claims and MOVEs (R84 to R89) -/

/-- Whether the offered entry is still in the state the offer left it in: OFFERED, or BOUND or HELD for a
re-claim (R84 to R86, R89). -/
def Offer.stands (o : Offer) (e : Entry) : Bool :=
  match o.kind with
  | .reclaim => decide (e.state = .bound ∨ e.state = .held)
  | _ => decide (e.state = .offered)

/-- A claim or MOVE outcome acts on the offered entry (R84 to R87, R89). The offer record is emptied by
`takeOutcome`. -/
def State.settleOffer (o : Offer) (r : ClaimResult) (st : Option Byte) (s : State) : State :=
  let n := o.name
  let e := s.entry n
  match r with
  | .dispute => s.disputeEntry n
  | .failure =>
    match o.kind with
    | .new => s.vacateOwed n
    | .move => s.vacateOwed n
    | .ret => s.stableEntry n o.prior
    | .reclaim => s
  | .success =>
    match o.kind with
    | .new =>
      s.stableEntry n { e with
        state := if s.dir.ackMask.join then .held else .bound
        sticky := false, conflict := false, devstat := st.getD 0, stamp := s.roll.round, strikes := 0 }
    | .ret =>
      s.stableEntry n { e with
        state := if s.dir.ackMask.ret then .held else .bound
        sticky := true, conflict := false, devstat := st.getD e.devstat, stamp := s.roll.round, strikes := 0 }
    | .reclaim =>
      s.stableEntry n { e with devstat := st.getD e.devstat, stamp := s.roll.round, strikes := 0 }
    | .move =>
      s.stableEntry n { e with
        state := .bound
        sticky := false, conflict := false, devstat := st.getD e.devstat, stamp := s.roll.round, strikes := 0 }

/-- Whether a claim or MOVE outcome report is acted on: the offer record holds an offer with the same name and
identity (R88), whose entry is still as the offer left it (log 33). -/
def State.outcomeActs (n : Name) (i : Identity) (s : State) : Bool :=
  match s.dir.offer with
  | none => false
  | some o => decide (o.name = n ∧ o.ident = i) && o.stands (s.entry n)

/-- A claim or MOVE outcome report, taken against the offer record: acted on only when the record holds an
offer with the same name and identity, and ignored otherwise (R88). -/
def State.takeOutcome (n : Name) (i : Identity) (r : ClaimResult) (st : Option Byte) (s : State) : State :=
  match s.dir.offer with
  | none => s
  | some o =>
    if o.name = n ∧ o.ident = i then
      if o.stands (s.entry n) then (s.settleOffer o r st).clearOffer else s.clearOffer
    else s

/-- The report that a MOVE's RELEASE to m was sent: entry m is vacated and entry t offered to its identity
(R89 point 1). -/
def State.takeMoveRelease (m t : Name) (s : State) : State :=
  let e := s.entry m
  if s.cm.state = .serving ∧ e.state = .bound then
    let s1 := s.vacate m
    let ce := s.classEntry e.cls
    (s1.stableEntry t
      { state := .offered, ident := e.ident, cls := e.cls, role := e.role, devstat := e.devstat
        outside := !ce.covers t }).recordOffer t e.ident .move (vacantEntry false)
  else s

/-! ### Roll reports (R90, R91) -/

/-- The entry states a roll report is for (R90). -/
def rollReportFits : RollReport → EntryState → Bool
  | .answered _ _, st => decide (st = .bound ∨ st = .held)
  | .strike _, st => decide (st = .bound ∨ st = .held)
  | .struckOut, st => decide (st = .bound ∨ st = .held)
  | .revived _ _, st => decide (st = .stale)
  | .retentionStep _, st => decide (st = .stale)
  | .retentionExpired, st => decide (st = .stale)
  | .dispute, st => decide (st = .bound ∨ st = .held ∨ st = .stale)

/-- Whether the directory unit takes roll reports: the coupling is SERVING, or it was and the directory unit has not yet
taken the coupling-lost notice, up to which R129 has it take them (R90, R129; DEDUCED, log 41). -/
def State.takesRollReports (s : State) : Bool := decide (s.cm.state = .serving) || s.dir.serving

/-- A roll caller's report, ignored outside SERVING, that is, from the coupling-lost notice on (R129), and for an entry
in another state (R90, R91). -/
def State.takeRollReport (n : Name) (rep : RollReport) (s : State) : State :=
  let e := s.entry n
  if s.takesRollReports = true ∧ rollReportFits rep e.state = true then
    match rep with
    | .answered st rd =>
      if st = e.devstat then s.liveEntry n rd 0 e.keep
      else s.stableEntry n { e with devstat := st, stamp := rd, strikes := 0 }
    | .strike k => s.liveEntry n e.stamp k e.keep
    | .struckOut => s.stableEntry n { e with state := .stale, strikes := 0, keep := s.roll.keepRounds }
    | .revived st rd =>
      s.stableEntry n { e with state := .bound, devstat := st, stamp := rd, strikes := 0, keep := 0 }
    | .retentionStep k => s.liveEntry n e.stamp e.strikes k
    | .dispute => s.disputeEntry n
    | .retentionExpired => s.depart n
  else s

/-! ### FORGET (R92) -/

/-- FORGET's result for an entry state (R92). -/
def forgetResult : EntryState → Result
  | .stale => .ok
  | .retiring => .ok
  | .vacant => .noDevice
  | _ => .wrongState

/-- FORGET's effect on entry n (R92). -/
def State.forget (n : Name) (s : State) : State :=
  match forgetResult (s.entry n).state with
  | .ok => s.vacateOwed n
  | _ => s

/-! ### Line clear and loss of the coupling (R94, R95) -/

/-- A bound device that has lost its name: STALE, KEEP_ROUNDS in force, no strikes (R94, R95). -/
def staleEntry (keepRounds : Nat) (e : Entry) : Entry :=
  { e with state := .stale, strikes := 0, keep := keepRounds }

/-- What the line-clear-sent notice makes of an entry; `none` where it is unchanged (R95). -/
def lineClearEntry (keepRounds : Nat) (m : AckMask) (e : Entry) : Option Entry :=
  match e.state with
  | .bound => some (staleEntry keepRounds e)
  | .held => some (staleEntry keepRounds e)
  | .disputed => some (resolvedDispute m e)
  | .vacant => if e.owed then some { e with owed := false } else none
  | _ => none

/-- What an OFFERED entry is restored to: its content before the offer (R94). Without an offer record of its
name, which no sequence of the part's own events leaves, it becomes VACANT (log 17). -/
def restoredOffer (o : Option Offer) (n : Name) : Entry :=
  match o with
  | some o => if o.name = n then o.prior else vacantEntry false
  | none => vacantEntry false

/-- What the coupling-lost notice makes of an entry; `none` where it is unchanged (R94). -/
def couplingLostEntry (keepRounds : Nat) (m : AckMask) (o : Option Offer) (n : Name) (e : Entry) :
    Option Entry :=
  match e.state with
  | .offered => some (restoredOffer o n)
  | _ => lineClearEntry keepRounds m e

/-- The line-clear-sent notice at the directory unit (R95). -/
def State.directoryLineClear (s : State) : State :=
  s.stableAll fun _ e => lineClearEntry s.roll.keepRounds s.dir.ackMask e

/-- The coupling-lost notice at the directory unit (R94): the entries, the offer record, and the names whose
RELEASE_OWED it clears off the release list. No roll report of this coupling is taken after it (R90, R129). -/
def State.directoryLoss (s : State) : State :=
  let s1 := s.stableAll fun n e => couplingLostEntry s.roll.keepRounds s.dir.ackMask s.dir.offer n e
  let s2 := s1.clearOffer
  { s2 with dir := { s2.dir with serving := false }, line := { s2.line with releases := s2.line.releases.filter fun n =>
    !((s.entry n).owed && !(s1.entry n).owed) } }

/-! ### Lowering of the live fields (R120, R130) -/

/-- STRIKES and KEEP of an entry lowered to new limits, as live writes (R130). -/
def Entry.lowered (strikeLimit keepRounds : Nat) (e : Entry) : Entry :=
  { e with strikes := min e.strikes (strikeLimit - 1), keep := min e.keep keepRounds }

/-- The prior KEEP of a RETURN offer lowered (R130). -/
def Offer.lowered (keepRounds : Nat) (o : Offer) : Offer :=
  match o.kind with
  | .ret => { o with prior := { o.prior with keep := min o.prior.keep keepRounds } }
  | _ => o

/-- Every STRIKES and KEEP beyond the new limits is lowered to them (R120, R130). -/
def State.lowerLive (strikeLimit keepRounds : Nat) (s : State) : State :=
  { s with dir := { s.dir with
      entries := Vector.ofFn fun n => (s.entry n).lowered strikeLimit keepRounds
      offer := s.dir.offer.map (Offer.lowered keepRounds) } }

end Sys2Proof.Machine
end

