-- ==== Sys2Proof/Machine/WalkerOps.lean ====
section
/-! DEFINITION. The discovery walker's operations (chapter 6): starting and ending a pass, judging a seek's
windows, pushing prefixes, and the result of a claim. -/

namespace Sys2Proof.Machine

/-- Whether the walker has work for a grant (R97). -/
def Walker.hasWork (w : Walker) : Bool :=
  match w.state with
  | .walking => !w.candidates.isEmpty || !w.stack.isEmpty
  | .sweepDue => true
  | _ => false

/-- Whether a pass is running (table of walker states). -/
def Walker.passRunning (w : Walker) : Bool := decide (w.state = .awaitClear ∨ w.state = .walking)

/-- Whether a call group of the walker is in flight. -/
def State.walkerInFlight (s : State) : Bool :=
  match s.line.flight with
  | .sending .walker _ => true
  | .listening .walker _ => true
  | .windows _ => true
  | .gap .walker _ => true
  | _ => false

/-- A running count plus k, staying at 255 once there (R107). -/
def countUp (v k : Nat) : Nat := addUpTo Config.counterMax v k

/-- A prefix pushed on the seek stack, or counted in DROPPED when the stack holds 24 (R100). -/
def Walker.push (p : Prefix) (w : Walker) : Walker :=
  if w.stack.length < Config.stackMax then { w with stack := p :: w.stack }
  else { w with counts := { w.counts with dropped := countUp w.counts.dropped 1 } }

/-- A pass starts and the walker enters `st` (R98). The claim context of a claim of the walker that is still
in flight is kept, so that its outcome can be reported (log 15). -/
def State.startPass (st : WalkerState) (s : State) : State :=
  ({ s with walker := { s.walker with
      state := st
      stack := [[]]
      candidates := []
      claim := if s.walkerInFlight then s.walker.claim else none
      passNumber := s.walker.passNumber + 1
      counts := {}
      sweepCount := 0 } }).give [.passStartReport]

/-- A pass that is not the first of its coupling starts in WALKING (R98, R112, R113, R117), provided the coupling is DISCOVERING
or SERVING, as the walker reads it (R2). Elsewhere no event that starts one arises (R112); where its notice is taken
late, after the loss of the coupling, no pass starts (the model's choice: log 45). -/
def State.startFurther (s : State) : State :=
  if s.cm.state.lineOn then s.startPass .walking else s

/-- Why a pass ends (R110). -/
inductive PassEnd where
  | completion
  | budget
  | couplingLost
  | reseat
  deriving DecidableEq, Repr

/-- The result of an ending pass (R111). -/
def passResultOf (c : PassCounts) (how : PassEnd) : PassResult :=
  if how = .completion ∧ c.unresolved = 0 ∧ c.dropped = 0 ∧ c.noRoom = 0 then .complete else .incomplete

/-- The attempt count after a pass has ended (R111). -/
def attemptsAfter (n : Nat) (r : PassResult) (how : PassEnd) : Nat :=
  match how with
  | .couplingLost => 0
  | .reseat => n
  | _ => if r = .complete then 0 else addUpTo Config.attemptMax n 1

/-- Whether a follow-up pass is wanted (R111). -/
def followUpWanted (w : Walker) (r : PassResult) (how : PassEnd) : Bool :=
  match how with
  | .couplingLost => false
  | .reseat => false
  | _ => decide (r ≠ .complete ∧ attemptsAfter w.attempts r how < w.passAttempts) && !w.owed

/-- A pass ends: the pass record in one stable change with ALERT.PASS, the attempt count, the pass-end
report (R110, R111). The walker is IDLE, with stack, list and claim context empty. -/
def State.closePass (how : PassEnd) (s : State) : State :=
  let w := s.walker
  let r := passResultOf w.counts how
  ({ s with walker := { w with
      state := .idle
      stack := []
      candidates := []
      claim := if s.walkerInFlight then w.claim else none
      attempts := attemptsAfter w.attempts r how
      record := ⟨w.passNumber, r, w.counts⟩ } }).recordChange .pass |>.give
    [.passEndReport r (followUpWanted w r how)]

/-- A pass ends by completion or by the budget; an owed pass starts in the same event, after the report
(R111). -/
def State.endPass (how : PassEnd) (s : State) : State :=
  let s1 := s.closePass how
  if s.walker.owed then
    State.startPass .walking { s1 with walker := { s1.walker with owed := false } }
  else s1

/-- After an event that may have left nothing to seek or claim: the pass ends (R103, R107, R110). -/
def State.endIfDone (s : State) : State :=
  if s.walker.state = .walking ∧ s.walker.candidates = [] ∧ s.walker.stack = [] then s.endPass .completion
  else s

/-! ### The windows of a seek (R102 to R104, R115) -/

/-- The walker's judgement of window w of a seek of prefix P (R102). -/
def judgeWindow (p : Prefix) (w : Nat) : Window → Window
  | .clean i c =>
    if hasPrefix i p = true ∧ digitAt i p.length = BitVec.ofNat 4 w ∧ Config.excludedIdentity i = false then
      .clean i c
    else .garbled
  | raw => raw

/-- The sixteen windows judged, numbered from w on (R102). -/
def judgeWindows (p : Prefix) : Nat → List Window → List Window
  | _, [] => []
  | w, x :: rest => judgeWindow p w x :: judgeWindows p (w + 1) rest

/-- The candidates of the CLEAN windows, in ascending window order (R103 step 1). -/
def candidatesOf : List Window → List Candidate
  | [] => []
  | .clean i c :: rest => ⟨i, c⟩ :: candidatesOf rest
  | _ :: rest => candidatesOf rest

/-- The numbers of the GARBLED windows, in descending order, for windows numbered from w on (R103 step 2). -/
def garbledDown : Nat → List Window → List Nat
  | _, [] => []
  | w, x :: rest => garbledDown (w + 1) rest ++ (if x = .garbled then [w] else [])

/-- The GARBLED windows of a seek: extended prefixes pushed, or UNRESOLVED counted at L = 11 (R103). -/
def Walker.takeGarbled (p : Prefix) (w : Walker) : List Nat → Walker
  | [] => w
  | g :: rest =>
    Walker.takeGarbled p
      (if p.length < Config.prefixMax then w.push (p ++ [BitVec.ofNat 4 g])
       else { w with counts := { w.counts with unresolved := countUp w.counts.unresolved 1 } })
      rest

/-- Steps 1 to 3 of R103 for the judged windows of a seek of prefix P. -/
def Walker.takeWindows (p : Prefix) (judged : List Window) (w : Walker) : Walker :=
  Walker.takeGarbled p
    { w with candidates := w.candidates ++ candidatesOf judged, foundLen := p.length, seeking := none }
    (garbledDown 0 judged)

/-- The windows of a seek reach a walking walker (R103, R104): at the budget the pass ends; otherwise the pass
goes on, or ends with nothing left. -/
def State.walkWindows (p : Prefix) (judged : List Window) (s : State) : State :=
  let s1 := { s with walker := s.walker.takeWindows p judged }
  if Config.seekBudget ≤ s1.walker.counts.seeks then s1.endPass .budget else s1.endIfDone

/-- The windows of a sweep (R115). -/
def State.sweepWindows (judged : List Window) (s : State) : State :=
  if judged.all (fun x => decide (x = .silent)) then
    if s.walker.owed then
      State.startPass .walking { s with walker := { s.walker with owed := false, seeking := none } }
    else { s with walker := { s.walker with state := .idle, seeking := none } }
  else
    let s1 := State.startPass .walking { s with walker := { s.walker with owed := false } }
    let s2 := { s1 with walker := { s1.walker with
      stack := [], counts := { s1.walker.counts with seeks := 1 } } }
    s2.walkWindows [] judged

/-- The raw classes of all sixteen windows handed to the walker (R44). A walker that no longer has the
seek in hand does nothing with them (R116). -/
def State.handWindows (heard : List Window) (s : State) : State :=
  match s.walker.seeking with
  | none => s
  | some p =>
    match s.walker.state with
    | .walking => s.walkWindows p (judgeWindows p 0 heard)
    | .sweeping => s.sweepWindows (judgeWindows p 0 heard)
    | _ => { s with walker := { s.walker with seeking := none } }

/-! ### Claims (R107 to R109) -/

/-- The pass-wanted notice at the walker, up to the report of work (R112). Outside DISCOVERING and SERVING, where the rule
says that no such notice arises, it starts no pass (log 45). -/
def State.wantPass (s : State) : State :=
  match s.walker.state with
  | .idle => s.startFurther
  | .sweepDue => s.startFurther
  | _ => { s with walker := { s.walker with owed := true } }

/-- The counts and pushes of a claim result (R107 to R109). -/
def Walker.countClaim (x : ClaimContext) (r : ClaimResult) (w : Walker) : Walker :=
  match r with
  | .success =>
    match x.kind with
    | .ret => { w with counts := { w.counts with returned := countUp w.counts.returned 1 } }
    | .reclaim => { w with counts := { w.counts with reclaimed := countUp w.counts.reclaimed 1 } }
    | _ => { w with counts := { w.counts with found := countUp w.counts.found 1 } }
  | .failure =>
    if x.len < Config.prefixMax then
      w.push ((identityDigits x.cand.ident).take x.len ++ [x.window])
    else { w with counts := { w.counts with
        phantom := countUp w.counts.phantom 1, unresolved := countUp w.counts.unresolved 1 } }
  | .dispute => w

/-- The end of a claim group at the walker (R107): the report, which the directory unit takes in this event
(log 3); for a dispute the walker's own notice, which reaches the running pass (R109, log 5); the
counts; the candidate leaves the list; the pass ends if nothing is left. -/
def State.finishClaim (x : ClaimContext) (r : ClaimResult) (st : Option Byte) (s : State) : State :=
  let s1 := s.takeOutcome x.name x.cand.ident r st
  let s2 :=
    if r = .dispute ∧ s.outcomeActs x.name x.cand.ident = true then
      ({ s1 with given := s.given }).wantPass
    else s1
  let w := s2.walker.countClaim x r
  { s2 with walker := { w with candidates := w.candidates.tail, claim := none } }.endIfDone

/-! ### Line clear and loss of the coupling (R99, R116, R117) -/

/-- The line-clear-sent notice at the walker, up to the report of work (R99, R117). In WALKING it is the
clear of a RESEAT unless the coupling is DISCOVERING (log 14). The seek of the abandoned pass is forgotten: where the
notice is taken late, with that seek still in flight, its windows reach no pass (log 39). -/
def State.walkerLineClear (s : State) : State :=
  match s.walker.state with
  | .awaitClear => { s with walker := { s.walker with state := .walking } }
  | .walking =>
    if s.cm.state = .discovering then s
    else
      let s1 := s.closePass .reseat
      State.startPass .walking { s1 with walker := { s1.walker with owed := false, seeking := none } }
  | .sweeping => { s with walker := { s.walker with owed := true } }
  | .idle => s.startFurther
  | .sweepDue => s.startFurther

/-- The coupling-lost notice at the walker (R116). -/
def State.walkerLoss (s : State) : State :=
  let s1 := if s.walker.passRunning then s.closePass .couplingLost else s
  { s1 with walker := { s1.walker with
      state := .idle, stack := [], candidates := [], claim := none, seeking := none
      owed := false, attempts := 0, sweepCount := 0 } }

end Sys2Proof.Machine
end

