-- ==== Sys2Proof/Machine/RollOps.lean ====
section
/-! DEFINITION. The roll caller's operations (chapter 7): beginning and ending a round, and the report that a
roll's outcome makes. -/

namespace Sys2Proof.Machine

/-- An entry state that is called in roll rounds (R122, section 5.2). -/
def EntryState.rolled : EntryState → Bool
  | .bound => true
  | .held => true
  | .stale => true
  | _ => false

/-- The names that are due when a round begins, ascending (R122). -/
def State.dueNames (s : State) : List Name := allNames.filter fun n => (s.entry n).state.rolled

/-- Steps 1 to 3 of R122. -/
def State.openRound (s : State) : State :=
  { s with roll := { s.roll with round := s.roll.round + 1, due := s.dueNames, inProgress := true } }

/-- Steps 1 and 2 of R124. -/
def State.closeRound (s : State) : State :=
  ({ s with roll := { s.roll with inProgress := false } }).give [.roundEndNotice]

/-- A round ends; an owed round begins at once, and ends at once when no name is due (R124, R122). -/
def State.endRound (s : State) : State :=
  let s1 := s.closeRound
  if s1.roll.owed then
    let s2 := State.openRound { s1 with roll := { s1.roll with owed := false } }
    if s2.roll.due = [] then s2.closeRound else s2
  else s1

/-- A round begins, and ends in the same event when no name is due (R122). -/
def State.beginRound (s : State) : State :=
  let s1 := s.openRound
  if s1.roll.due = [] then s1.endRound else s1

/-- The report a roll's outcome makes, from the entry's state and IDENT at the grant and its live fields and
the limits as they stand (R126, R127). Any outcome that is not CLEAN is a miss. -/
def rollReportOf (h : RollCall) (e : Entry) (strikeLimit : Nat) (round : Word) : Answer → RollReport
  | .clean vals =>
    if rollIdentity vals = h.ident then
      if h.state = .stale then .revived (rollStatus vals) round else .answered (rollStatus vals) round
    else .dispute
  | _ =>
    if h.state = .stale then
      if 1 < e.keep then .retentionStep (e.keep - 1) else .retentionExpired
    else if e.strikes + 1 < strikeLimit then .strike (e.strikes + 1)
    else .struckOut

/-- The end of a roll group at the roll caller (R125 to R128): the name leaves the due set, the directory unit
takes the report in this event (log 3), the call in hand is emptied, and the round ends when no name is
left (R124). -/
def State.finishRoll (h : RollCall) (a : Answer) (s : State) : State :=
  let rep := rollReportOf h (s.entry h.name) s.roll.strikeLimit s.roll.round a
  let s1 := { s with roll := { s.roll with due := s.roll.due.filter (fun m => m ≠ h.name), hand := none } }
  let s2 := s1.takeRollReport h.name rep
  if s2.roll.due = [] then s2.endRound else s2

/-- The line unit's abandonment notice at the roll caller (R129): the call in hand is emptied without a report, its name
is out of the due set, and the round stays as it is. -/
def State.rollAbandoned (s : State) : State :=
  match s.roll.hand with
  | some h => { s with roll := { s.roll with due := s.roll.due.filter (fun m => m ≠ h.name), hand := none } }
  | none => s

/-- The coupling-lost notice at the roll caller (R131). -/
def State.rollLoss (s : State) : State :=
  { s with roll := { s.roll with timer := none, due := [], inProgress := false, owed := false, hand := none } }

end Sys2Proof.Machine
end

