-- ==== Sys2Proof/Machine/RequestOps.lean ====
section
/-! DEFINITION. The request unit's operations (chapter 9): the checks of an accepted post, waiting, completion,
and the requests that are settled at once. -/

namespace Sys2Proof.Machine

/-! ### Kinds (section 11.5, R163) -/

/-- The ten request kinds. -/
inductive Kind where
  | read
  | write
  | move
  | forget
  | search
  | reseat
  | retime
  | limits
  | drive
  | rearm
  deriving DecidableEq, Repr

/-- The code of a kind (section 11.5). -/
def Kind.code : Kind → Nat
  | .read => 1
  | .write => 2
  | .move => 3
  | .forget => 4
  | .search => 5
  | .reseat => 6
  | .retime => 7
  | .limits => 8
  | .drive => 9
  | .rearm => 10

/-- The kind a kind field holds; `none` for 0 and 11 to 255 (R163). -/
def kindOf (b : Byte) : Option Kind :=
  match b.toNat with
  | 1 => some .read
  | 2 => some .write
  | 3 => some .move
  | 4 => some .forget
  | 5 => some .search
  | 6 => some .reseat
  | 7 => some .retime
  | 8 => some .limits
  | 9 => some .drive
  | 10 => some .rearm
  | _ => none

/-- The first k data words of a slot, from data word 8 on. -/
def Slot.firstData (t : Slot) (k : Nat) : List Word := t.data.toList.take k

/-- A count of READ and WRITE that the form check accepts (R146 check 2). -/
def countFits (w : Word) : Bool := decide (1 ≤ w.toNat ∧ w.toNat ≤ 16)

/-- A request that passed the form check (R146 check 2). -/
inductive Request where
  | line (q : LineRequest)
  | forget (n : Name)
  | search
  | retime
  | limits
  | drive
  | rearm
  deriving DecidableEq, Repr

/-- The request a slot's host words hold, decoded as they stand; `none` is BAD_REQUEST (R144, R146 check 2,
R163). -/
def Slot.request (t : Slot) : Option Request :=
  match kindOf t.kind with
  | none => none
  | some .read =>
    match nameOfNum t.name.toNat with
    | some n => if countFits t.count then some (.line (.read n t.argA t.count.toNat)) else none
    | none => none
  | some .write =>
    match nameOfNum t.name.toNat with
    | some n =>
      if countFits t.count then some (.line (.write n t.argA (t.firstData t.count.toNat))) else none
    | none => none
  | some .move =>
    match nameOfNum t.name.toNat, nameOfNum t.argA.toNat with
    | some n, some m => some (.line (.move n m))
    | _, _ => none
  | some .forget =>
    match nameOfNum t.name.toNat with
    | some n => some (.forget n)
    | none => none
  | some .search => some .search
  | some .reseat => some (.line .reseat)
  | some .retime => some .retime
  | some .limits => some .limits
  | some .drive => some .drive
  | some .rearm => some .rearm

/-! ### Completion (R151) -/

/-- Words written into data words 8 onward, the others kept (R151). -/
def writeData (ws : List Word) (d : Vector Word 16) : Vector Word 16 :=
  Vector.ofFn fun k => ws.getD k.val d[k]

/-- A request ends: the data words, TELL with phase DONE, the latched request discarded (R151). -/
def Slot.ended (r : Result) (ws : List Word) (t : Slot) : Slot :=
  { t with phase := .done, result := r, data := writeData ws t.data, latched := none, wait := none }

/-- The request of slot k ends in one event, with ALERT.REQUEST (R151); the slot leaves the post-order list. -/
def State.completeRequest (k : SlotNo) (r : Result) (ws : List Word) (s : State) : State :=
  let s1 := s.putSlot k ((s.slot k).ended r ws)
  State.raise .request
    { s1 with req := { s1.req with postOrder := s1.req.postOrder.filter (fun j => j ≠ k) } }

/-! ### The entry check (R146 check 5) -/

/-- The refusal an entry's state gives a request that names it (section 5.2); `none` when BOUND. -/
def entryRefusal : EntryState → Option Result
  | .bound => none
  | .held => some .notReady
  | .offered => some .nameBusy
  | .disputed => some .nameBusy
  | .vacant => some .noDevice
  | .stale => some .noDevice
  | .retiring => some .noDevice

/-- Check 5 of R146, made at the post in SERVING and again at the grant (R148); `none` when it passes. A MOVE whose
target is OFFERED or DISPUTED ends NAME_TAKEN, as check 5 says, where R93 with the table of section 5.2 would give
NAME_BUSY (the model's choice between the two rules: log 37). -/
def State.entryCheck (q : LineRequest) (s : State) : Option Result :=
  match q with
  | .read n _ _ => entryRefusal (s.entry n).state
  | .write n _ _ => entryRefusal (s.entry n).state
  | .move n t =>
    match entryRefusal (s.entry n).state with
    | some r => some r
    | none => if (s.entry t).isFree then none else some .nameTaken
  | .reseat => none

/-! ### Waiting (R147) -/

/-- The request of slot k waits for the line: phase WAITING, the tail of the post-order list, the wait timer
(R147). -/
def State.waitForLine (k : SlotNo) (q : LineRequest) (s : State) : State :=
  let s1 := s.putSlot k
    { s.slot k with phase := .waiting, result := .ok, latched := some q, wait := some s.req.waitMs }
  { s1 with req := { s1.req with postOrder := s1.req.postOrder ++ [k] } }

/-! ### Requests settled at once (R155) -/

/-- The walker's part of a new SWEEP_ROUNDS: in force at once, and 0 drops a due sweep (R114, R118). -/
def Walker.setSweepRounds (v : Nat) (w : Walker) : Walker :=
  { w with sweepRounds := v, state := if v = 0 ∧ w.state = .sweepDue then .idle else w.state }

/-- RETIME: the four values clamped, in force, existing fields lowered, written back; the values in force are
echoed (R130). -/
def State.doRetime (a b c d : Word) (s : State) : State × List Word :=
  let (a', b', c', d') := clampTimes a b c d
  let s1 := if (a', b', c', d') = (a, b, c, d) then s else s.raise .clamped
  let s2 := { s1 with
    roll := { s1.roll with rollMs := a'.toNat, strikeLimit := b'.toNat, keepRounds := c'.toNat }
    walker := s1.walker.setSweepRounds d'.toNat
    port := { s1.port with params := { s1.port.params with
      rollMs := a', strikeLimit := b', keepRounds := c', sweepRounds := d' } } }
  (s2.lowerLive b'.toNat c'.toNat, [a', b', c', d'])

/-- LIMITS: the five values clamped, in force and written back; the values in force are echoed (R32). -/
def State.doLimits (a b c d e : Word) (s : State) : State × List Word :=
  let (a', b', c', d', e') := clampLimits a b c d e
  let s1 := if (a', b', c', d', e') = (a, b, c, d, e) then s else s.raise .clamped
  ({ s1 with
    feed := { s1.feed with limits := limitsOf a' b' c' d' e' }
    port := { s1.port with params := { s1.port.params with
      logicLimit := a', driveLimit := b', sumLimit := c', tripA := d', tripB := e' } } },
   [a', b', c', d', e'])

/-- DRIVE: on for any value but 0 (R33). The sample after a switch-on is discarded and not compared (R24), so a sample that
would have tripped stage A trips nothing where it comes next after the request, though R33 says of the two together that
the trip then switches DRIVE off and sets the latch (DESIGN CHOICE: log 48). -/
def State.doDrive (a : Word) (s : State) : State × Result :=
  if a = 0 then (s.setFeed .coupling { s.feed with driveOn := false }, .ok)
  else if s.cm.state = .serving ∧ s.feed.logicOn = true ∧ s.feed.latch = false then
    if s.feed.driveOn then (s, .ok)
    else (s.setFeed .coupling { s.feed with driveOn := true, discard := true }, .ok)
  else (s, .wrongState)

/-- The feed supervisor's part of a REARM (R34). -/
def FeedSupervisor.rearmed (f : FeedSupervisor) : FeedSupervisor :=
  { f with latch := false, trip := {}, run := 0 }

/-- The coupling monitor's part of a REARM taken in FAULTED (R17). -/
def State.monitorRearm (s : State) : State :=
  if s.cm.first = true ∨ s.cm.last = true then
    (s.setMonitor { s.cm with state := .making, cause := .none, settle := some s.cm.settleMs }).give
      [.feedsOffCommand]
  else
    (s.setMonitor { s.cm with state := .opened, cause := .none }).give [.stopNotice, .feedsOffCommand]

/-- REARM: OK when the coupling was FAULTED or a trip was held, and then both blocks act (R17, R34). -/
def State.doRearm (s : State) : State × Result :=
  if s.cm.state = .faulted ∨ s.feed.latch = true then
    let s1 := if s.cm.state = .faulted then s.monitorRearm else s
    (s1.setFeed .coupling s1.feed.rearmed, .ok)
  else (s, .wrongState)

/-! ### Loss of the coupling and line clear (R154, R156) -/

/-- A slot at the coupling-lost notice: WAITING and ON_LINE end with the reason's result (R156). -/
def Slot.lost (r : LossReason) (t : Slot) : Slot :=
  if t.phase = .waiting ∨ t.phase = .onLine then t.ended (lossResult r) [] else t

/-- A slot at the line-clear-sent notice: an ON_LINE RESEAT ends OK (R154). -/
def Slot.reseated (t : Slot) : Slot :=
  if t.phase = .onLine ∧ t.latched = some .reseat then t.ended .ok [] else t

/-- Every slot changed by `f` in one event, with ALERT.REQUEST once when a request ended (R156). -/
def State.endSlots (f : Slot → Slot) (s : State) : State :=
  let s1 := { s with req := { s.req with slots := Vector.ofFn fun k => f (s.slot k) } }
  if allSlots.any fun k => decide (f (s.slot k) ≠ s.slot k) then s1.raise .request else s1

/-- The coupling-lost notice at the request unit (R156). -/
def State.requestLoss (r : LossReason) (s : State) : State :=
  let s1 := s.endSlots (Slot.lost r)
  { s1 with req := { s1.req with postOrder := [], hand := none } }

end Sys2Proof.Machine
end

