-- ==== Sys2Proof/Machine/Grants.lean ====
section
/-! DEFINITION. The grant of the coupling line (R50 to R52): what the line unit may grant, what each claimant does
at its grant, and the grant decision, which goes on while claimants return the grant. -/

namespace Sys2Proof.Machine

/-- What a grant decision can grant (R51). -/
inductive Grant where
  | lineClear
  | release (name : Name)
  | rotation (claimant : Claimant)
  deriving DecidableEq, Repr

/-- The rotation claimants counted from the one after a claimant (R51). -/
def rotationAfter : Claimant → List Claimant
  | .walker => [.rollCaller, .requestUnit, .walker]
  | .rollCaller => [.requestUnit, .walker, .rollCaller]
  | .requestUnit => [.walker, .rollCaller, .requestUnit]

/-- Whether a rotation claimant has work (R51, R97, R125, R147). -/
def State.claimantWork (s : State) : Claimant → Bool
  | .walker => s.walker.hasWork
  | .rollCaller => !s.roll.due.isEmpty
  | .requestUnit => !s.req.postOrder.isEmpty

/-- Whether a claimant takes part in the rotation: the walker always, the others once the line unit has taken
the notice of entry to SERVING (R51, R165; log 13). -/
def State.takesPart (s : State) : Claimant → Bool
  | .walker => true
  | .rollCaller => s.line.serving
  | .requestUnit => s.line.serving

/-- The rotation claimant whose turn it is (R51). -/
def State.nextClaimant (s : State) : Option Claimant :=
  (rotationAfter s.line.pointer).find? fun c => s.takesPart c && s.claimantWork c

/-- The claim that is served next, in the order of R51. -/
def State.nextGrant (s : State) : Option Grant :=
  if s.line.clearOwed then some .lineClear
  else
    match s.line.releases with
    | n :: _ => some (.release n)
    | [] => s.nextClaimant.map .rotation

/-- The line unit begins a call group, or a part of one. -/
def State.setFlight (f : Flight) (s : State) : State :=
  { s with line := { s.line with flight := f } }

/-! ### The walker's grant (R101, R106, R115) -/

/-- The head candidate leaves the list and the grant is returned (R97, R106); the pass ends if nothing is
left. -/
def State.dropCandidate (count : PassCounts → PassCounts) (s : State) : State :=
  State.endIfDone { s with walker := { s.walker with
    candidates := s.walker.candidates.tail, counts := count s.walker.counts } }

/-- NO_ROOM counted (R106). -/
def PassCounts.addNoRoom (c : PassCounts) : PassCounts := { c with noRoom := countUp c.noRoom 1 }

/-- UNRESOLVED counted (R106). -/
def PassCounts.addUnresolved (c : PassCounts) : PassCounts := { c with unresolved := countUp c.unresolved 1 }

/-- The walker fills its claim context and asks for the CLAIM (R106). -/
def State.sendClaim (x : Candidate) (n : Name) (k : OfferKind) (s : State) : State :=
  State.setFlight (.sending .walker (.claim x.ident n))
    { s with walker := { s.walker with
      claim := some ⟨x, n, k, s.walker.foundLen, digitAt x.ident s.walker.foundLen⟩ } }

/-- The walker's claim grant for its head candidate: name choice, and the claim or the returned grant (R106). -/
def State.claimGrant (x : Candidate) (s : State) : State :=
  let choice := s.nameChoice x.ident x.cls
  let s1 := s.makeOffer x.ident x.cls choice
  match choice with
  | .new n => s1.sendClaim x n .new
  | .ret n => s1.sendClaim x n .ret
  | .reclaim n => s1.sendClaim x n .reclaim
  | .evicted => s1.dropCandidate PassCounts.addNoRoom
  | .noRoom => s1.dropCandidate PassCounts.addNoRoom
  | .busy => s1.dropCandidate PassCounts.addUnresolved

/-- The walker's seek grant: the top prefix popped, SEEKS counted, the SEEK asked for (R101). -/
def State.seekGrant (p : Prefix) (rest : List Prefix) (s : State) : State :=
  State.setFlight (.sending .walker (.seek p))
    { s with walker := { s.walker with
      stack := rest, seeking := some p
      counts := { s.walker.counts with seeks := countUp s.walker.counts.seeks 1 } } }

/-- The walker's sweep grant (R115). -/
def State.sweepGrant (s : State) : State :=
  State.setFlight (.sending .walker (.seek []))
    { s with walker := { s.walker with state := .sweeping, sweepCount := 0, seeking := some [] } }

/-- The walker is granted the line (R97). -/
def State.walkerGrant (s : State) : State :=
  match s.walker.state with
  | .walking =>
    match s.walker.candidates with
    | x :: _ => s.claimGrant x
    | [] =>
      match s.walker.stack with
      | p :: rest => s.seekGrant p rest
      | [] => s
  | .sweepDue => s.sweepGrant
  | _ => s

/-! ### The roll caller's grant (R125) -/

/-- The due names whose entries are fit to call at this moment (R125). -/
def State.fitNames (s : State) : List Name := s.roll.due.filter fun n => (s.entry n).state.rolled

/-- The roll caller is granted the line: unfit names removed, the lowest name left called, or the grant
returned and the round ended (R125). -/
def State.rollGrant (s : State) : State :=
  match s.fitNames with
  | [] => State.endRound { s with roll := { s.roll with due := [] } }
  | n :: rest =>
    State.setFlight (.sending .rollCaller (.roll n))
      { s with roll := { s.roll with
        due := n :: rest, hand := some ⟨n, (s.entry n).state, (s.entry n).ident, 1⟩ } }

/-! ### The request unit's grant (R148) -/

/-- The slot goes ON_LINE and its first call is asked for (R148, R152, R153). -/
def State.goOnLine (k : SlotNo) (m : Name) (c : Call) (s : State) : State :=
  let s1 := s.putSlot k { s.slot k with phase := .onLine, result := .ok }
  State.setFlight (.sending .requestUnit c)
    { s1 with req := { s1.req with hand := some { slot := k, ident := (s.entry m).ident } } }

/-- A request at its grant, after check 5 (R148): ended, or on the line. A RESEAT is never in the post-order
list (R154). -/
def State.serveRequest (k : SlotNo) (q : LineRequest) (s : State) : State :=
  match s.entryCheck q with
  | some r => s.completeRequest k r []
  | none =>
    match q with
    | .read n a c => s.goOnLine k n (.read n a c)
    | .write n a ws => s.goOnLine k n (.write n a ws)
    | .move n _ => s.goOnLine k n (.release n)
    | .reseat => s

/-- The request unit is granted the line: the head of the post-order list leaves it, its wait timer stops, and
check 5 is repeated (R148). -/
def State.requestGrant (s : State) : State :=
  match s.req.postOrder with
  | [] => s
  | k :: rest =>
    let s1 := State.putSlot k { s.slot k with wait := none }
      { s with req := { s.req with postOrder := rest } }
    match (s.slot k).latched with
    | some q => s1.serveRequest k q
    | none => s1

/-! ### The decision (R50 to R52) -/

/-- A rotation claimant is granted the line; the pointer moves to it (R51). -/
def State.rotationGrant (c : Claimant) (s : State) : State :=
  let s1 := { s with line := { s.line with pointer := c } }
  match c with
  | .walker => s1.walkerGrant
  | .rollCaller => s1.rollGrant
  | .requestUnit => s1.requestGrant

/-- One grant (R46, R49, R51). -/
def State.grant (s : State) : Grant → State
  | .lineClear => State.setFlight .clearLow { s with line := { s.line with clearOwed := false } }
  | .release n => s.setFlight (.releasing n)
  | .rotation c => s.rotationGrant c

/-- Grants until a group is in flight or nothing has a claim (R52). -/
def State.grantLoop : Nat → State → State
  | 0, s => s
  | k + 1, s =>
    if s.line.flight = .free then
      match s.nextGrant with
      | some g => State.grantLoop k (s.grant g)
      | none => s
    else s

/-- The most grants one decision can take: each returned grant takes a candidate, a waiting request or one of
at most two rounds away, and one grant more is kept (log 30). -/
def State.grantFuel (s : State) : Nat :=
  s.walker.candidates.length + s.req.postOrder.length + 3

/-- The line unit may hold a call group in flight: its line is active, and the coupling is still DISCOVERING or
SERVING, so that nothing is granted between the loss of the coupling and the line unit's own notice of it (R50, R94;
log 42). -/
def State.mayGrant (s : State) : Bool := s.line.active && s.cm.state.lineOn

/-- The line unit decides a grant, provided the line is active and no group is in flight (R50). -/
def State.decideGrant (s : State) : State :=
  if s.mayGrant then s.grantLoop s.grantFuel else s

/-- A grant is decided when names joined the release list (R50). -/
def State.decideIfJoined (before after : State) : State :=
  if after.line.releases = before.line.releases then after else after.decideGrant

end Sys2Proof.Machine
end

