-- ==== Sys2Proof/Machine/CouplingCommands.lean ====
section
/-! DEFINITION. The commands of the coupling monitor (chapter 1): contact edges, its timers, the reports and notices
it receives. Section 1.9 gathers their effects. -/

namespace Sys2Proof.Machine

/-! ### Shared operations -/

/-- The internal level of a contact set (R1). -/
def CouplingMonitor.sense (x : Contact) (closed : Bool) (c : CouplingMonitor) : CouplingMonitor :=
  match x with
  | .first => { c with first := closed }
  | .last => { c with last := closed }

/-- The internal level of a contact. -/
def CouplingMonitor.level (c : CouplingMonitor) : Contact → Bool
  | .first => c.first
  | .last => c.last

/-- A contact's new level, sensed and recorded (R1: an edge in any state other than DORMANT). -/
def CouplingMonitor.record (x : Contact) (closed : Bool) (c : CouplingMonitor) : CouplingMonitor :=
  match x with
  | .first => { c with first := closed, shownFirst := closed }
  | .last => { c with last := closed, shownLast := closed }

/-- The settle timer started or restarted (section 1.3). -/
def CouplingMonitor.startSettle (c : CouplingMonitor) : CouplingMonitor := { c with settle := some c.settleMs }

/-- The power-wait and pass-retry timers stopped (R12). -/
def CouplingMonitor.stopWaits (c : CouplingMonitor) : CouplingMonitor :=
  { c with powerWait := none, passRetry := none }

/-- The notices of a loss of the coupling out of a state: the line-inactive notice out of DISCOVERING or SERVING
(R4), then the coupling-lost notices (R12), with which the feeds are commanded off (R22; log 22, log 23). -/
def lossGiven (st : CouplingState) (r : LossReason) : List Instr :=
  (if st.lineOn then [.lineInactiveNotice] else []) ++ lossNotices r

/-- A decoupling (R13): MAKING, the settle timer started, the other timers stopped, the coupling-lost notice with
reason DECOUPLED. -/
def State.decouple (x : Contact) (closed : Bool) (s : State) : State :=
  (s.setMonitor { (s.cm.record x closed).startSettle.stopWaits with state := .making }).give
    (lossGiven s.cm.state .decoupled)

/-- Entry to FAULTED (R14, R15): the cause, the timers stopped, the feed supervisor told to sample (R4), the
coupling-lost notice with reason FAULTED. -/
def State.enterFaulted (cause : FaultCause) (s : State) : State :=
  (s.setMonitor { s.cm.stopWaits with state := .faulted, cause := cause, settle := none }).give
    (.sampleNotice :: lossGiven s.cm.state .faulted)

/-- An edge of a contact (R1, R5, R6, R13, R16). -/
def State.edge (x : Contact) (closed : Bool) (s : State) : State :=
  match s.cm.state with
  | .dormant => { s with cm := s.cm.sense x closed }
  | .opened =>
    (s.setMonitor { (s.cm.record x closed).startSettle with state := .making }).give
      [.sampleNotice, .feedsOffCommand]
  | .making => s.setMonitor { (s.cm.record x closed).startSettle with partialMate := false }
  | .powering => s.decouple x closed
  | .discovering => s.decouple x closed
  | .serving => s.decouple x closed
  | .faulted => s.setMonitor (s.cm.record x closed)

/-- The settle expiry's outcome from the two levels as they stand (R7). -/
def State.settled (s : State) : State :=
  let c := { s.cm with settle := none }
  match s.cm.first, s.cm.last with
  | true, true => (s.setMonitor { c with state := .powering }).give [.captureNotice]
  | false, false => (s.setMonitor { c with state := .opened }).give [.stopNotice, .feedsOffCommand]
  | _, _ => s.setMonitor { c with partialMate := true }

/-! ### Meanings -/

/-- CONTACT_EDGE (R1). A level that is already sensed is no edge (log 10). -/
def execContactEdge (x : Contact) (closed : Bool) (s : State) : Host.Outcome State Fault Refusal :=
  .next (if s.cm.level x = closed then s else s.edge x closed)

/-- SETTLE_EXPIRY (R7). -/
def execSettleExpiry (s : State) : Host.Outcome State Fault Refusal :=
  .next (if s.cm.state = .making ∧ s.cm.settle.isSome = true then s.settled else s)

/-- LOGIC_ON_REPORT (R8 step 4): in POWERING alone it starts the power-wait timer. -/
def execLogicOnReport (s : State) : Host.Outcome State Fault Refusal :=
  let s1 := s.take .logicOnReport
  .next (if s1.cm.state = .powering then
    { s1 with cm := { s1.cm with powerWait := some s1.cm.powerWaitMs } } else s1)

/-- POWER_WAIT_EXPIRY (R9). -/
def execPowerWaitExpiry (s : State) : Host.Outcome State Fault Refusal :=
  .next (if s.cm.state = .powering ∧ s.cm.powerWait.isSome = true then
    (s.setMonitor { s.cm with state := .discovering, powerWait := none }).give
      [.lineActiveNotice, .firstPassNotice, .requestDiscoveringNotice]
  else s)

/-- The pass-retry timer at a pass-end report (R11): started or restarted when a follow-up is wanted. -/
def CouplingMonitor.retry (followUp : Bool) (c : CouplingMonitor) : CouplingMonitor :=
  if followUp then { c with passRetry := some c.passRetryMs } else c

/-- From now on the directory unit takes roll reports, until its coupling-lost notice (R90, R129; log 41). -/
def State.directoryServes (s : State) : State := { s with dir := { s.dir with serving := true } }

/-- PASS_END_REPORT (R10, R11). The result plays no part. -/
def execPassEndReport (result : PassResult) (followUp : Bool) (s : State) :
    Host.Outcome State Fault Refusal :=
  let s1 := s.take (.passEndReport result followUp)
  .next (match s1.cm.state with
    | .discovering =>
      (s1.directoryServes.setMonitor { s1.cm.retry followUp with state := .serving }).give
        [.rollServingNotice, .lineServingNotice, .requestServingNotice]
    | .serving => s1.setMonitor (s1.cm.retry followUp)
    | _ => s1)

/-- PASS_START_REPORT (R11): ignored outside DISCOVERING and SERVING. -/
def execPassStartReport (s : State) : Host.Outcome State Fault Refusal :=
  let s1 := s.take .passStartReport
  .next (if s1.cm.state.lineOn then { s1 with cm := { s1.cm with passRetry := none } } else s1)

/-- PASS_RETRY_EXPIRY (R11): the walker is told that a follow-up pass is due. -/
def execPassRetryExpiry (s : State) : Host.Outcome State Fault Refusal :=
  .next (if s.cm.state = .serving ∧ s.cm.passRetry.isSome = true then
    State.give [.retryDueNotice] { s with cm := { s.cm with passRetry := none } }
  else s)

/-- STAGE_B_NOTICE (R14, R16). -/
def execStageBNotice (s : State) : Host.Outcome State Fault Refusal :=
  let s1 := s.take .stageBNotice
  .next (if s1.cm.state.coupled then s1.enterFaulted .power else s1)

/-- LINE_HELD_NOTICE (R15, R16). -/
def execLineHeldNotice (s : State) : Host.Outcome State Fault Refusal :=
  let s1 := s.take .lineHeldNotice
  .next (if s1.cm.state.lineOn then s1.enterFaulted .lineHeld else s1)

end Sys2Proof.Machine
end

