-- ==== Sys2Proof/Machine/FeedCommands.lean ====
section
/-! DEFINITION. The commands of the feed supervisor (chapter 2): sampling, pedestal capture, correction, the run
counter, trips, and the loss of the coupling. -/

namespace Sys2Proof.Machine

/-! ### One sample (R24, R27, R28) -/

/-- A corrected reading: the raw reading less the pedestal, 0 at least (R24 step 1). -/
def corrected (raw : BitVec 12) (pedestal : Nat) : Nat := raw.toNat - pedestal

/-- The readings of a sample as the live words show them (R24). -/
def FeedSupervisor.readings (f : FeedSupervisor) (rawLogic rawDrive : BitVec 12) : Readings where
  rawLogic := rawLogic.toNat
  rawDrive := rawDrive.toNat
  corrLogic := corrected rawLogic f.pedLogic
  corrDrive := corrected rawDrive f.pedDrive
  sum := corrected rawLogic f.pedLogic + corrected rawDrive f.pedDrive

/-- The compared sum: a feed that is off contributes 0 (R27). -/
def FeedSupervisor.comparedSum (f : FeedSupervisor) (r : Readings) : Nat :=
  (if f.logicOn then r.corrLogic else 0) + (if f.driveOn then r.corrDrive else 0)

/-- The limits a sample meets (R27). -/
def FeedSupervisor.causes (f : FeedSupervisor) (r : Readings) : CauseSet where
  logic := f.logicOn && decide (f.limits.logic ≤ r.corrLogic)
  drive := f.driveOn && decide (f.limits.drive ≤ r.corrDrive)
  sum := decide (f.limits.sum ≤ f.comparedSum r)

/-- A sample meets a limit (R27). -/
def CauseSet.any (c : CauseSet) : Bool := c.logic || c.drive || c.sum

/-- The run counter after a compared sample (R28). -/
def runAfter (run : Nat) (c : CauseSet) : Nat :=
  if c.any then addUpTo Config.counterMax run 1 else 0

/-- The trip record of a tripping sample (section 2.5): its sum is the compared sum. -/
def FeedSupervisor.tripRecord (f : FeedSupervisor) (stage : TripStage) (r : Readings) (run : Nat) :
    TripRecord where
  stage := stage
  causes := f.causes r
  readings := { r with sum := f.comparedSum r }
  runLength := run

/-- A stage-A trip (R29): the sample's readings are written and frozen with the latch. -/
def FeedSupervisor.tripA (f : FeedSupervisor) (r : Readings) (run : Nat) : FeedSupervisor :=
  { f with driveOn := false, latch := true, trip := f.tripRecord .a r run, live := r, run := run }

/-- A stage-B trip (R30). -/
def FeedSupervisor.tripB (f : FeedSupervisor) (r : Readings) (run : Nat) : FeedSupervisor :=
  { f with logicOn := false, driveOn := false, latch := true, trip := f.tripRecord .b r run, live := r
           run := run }

/-- A compared sample that trips nothing: the run counter, and the live words unless they are frozen (R24, R31). -/
def FeedSupervisor.compared (f : FeedSupervisor) (r : Readings) (run : Nat) : FeedSupervisor :=
  { f with run := run, live := if f.latch then f.live else r }

/-- A compared sample (R24, R27 to R30). -/
def State.compareSample (rawLogic rawDrive : BitVec 12) (s : State) : State :=
  let f := s.feed
  let r := f.readings rawLogic rawDrive
  let run := runAfter f.run (f.causes r)
  if f.limits.tripB ≤ run then (s.setFeed .trip (f.tripB r run)).give [.stageBNotice]
  else if f.limits.tripA ≤ run ∧ f.latch = false then s.setFeed .trip (f.tripA r run)
  else { s with feed := f.compared r run }

/-! ### Pedestal capture (R25) -/

/-- The mean of the capture samples, rounded to the nearest count (R25 step 2). -/
def pedestalMean (sum : Nat) : Nat := (sum + 4) / 8

/-- One capture sample added (R25). -/
def Capture.add (rawLogic rawDrive : BitVec 12) (c : Capture) : Capture where
  taken := c.taken + 1
  sumLogic := c.sumLogic + rawLogic.toNat
  sumDrive := c.sumDrive + rawDrive.toNat

/-- The end of a pedestal capture: pedestals, PEDESTAL_HIGH, LOGIC on; the next sample is discarded when LOGIC was
off (R25 steps 2 to 4, R24). -/
def FeedSupervisor.captured (f : FeedSupervisor) (c : Capture) : FeedSupervisor :=
  let l := pedestalMean c.sumLogic
  let d := pedestalMean c.sumDrive
  { f with
    pedLogic := min Config.pedestalMax l
    pedDrive := min Config.pedestalMax d
    pedHigh := decide (Config.pedestalMax < l ∨ Config.pedestalMax < d)
    logicOn := true
    capture := none
    discard := !f.logicOn }

/-- A capture sample (R25). It is also the first sample after a switch-on, if it is that (log 25). -/
def State.captureSample (c : Capture) (rawLogic rawDrive : BitVec 12) (s : State) : State :=
  let c' := c.add rawLogic rawDrive
  if Config.captureSamples ≤ c'.taken then
    (s.setFeed .coupling (s.feed.captured c')).give [.logicOnReport]
  else { s with feed := { s.feed with capture := some c', discard := false } }

/-- The loss of the coupling at the feed supervisor (R22): both feeds off, the run counter 0, a capture abandoned, and
the latch cleared for DECOUPLED alone, in one stable change where a feed or the latch changes. -/
def State.feedLoss (r : LossReason) (s : State) : State :=
  s.setFeed .coupling { s.feed with
    logicOn := false, driveOn := false, capture := none, run := 0
    latch := if r = .decoupled then false else s.feed.latch }

/-! ### Meanings -/

/-- SAMPLE_NOTICE (R23). -/
def execSampleNotice (s : State) : Host.Outcome State Fault Refusal :=
  let s1 := s.take .sampleNotice
  .next { s1 with feed := { s1.feed with sampling := true } }

/-- STOP_NOTICE (R23, R26). -/
def execStopNotice (s : State) : Host.Outcome State Fault Refusal :=
  let s1 := s.take .stopNotice
  .next { s1 with feed := { s1.feed with sampling := false, capture := none } }

/-- CAPTURE_NOTICE (R25): the next 8 sample completions are capture samples. The notice is that of the
entry to POWERING: taken late, where the coupling has left POWERING, it is only taken (the model's choice: log 45). -/
def execCaptureNotice (s : State) : Host.Outcome State Fault Refusal :=
  let s1 := s.take .captureNotice
  .next (if s1.cm.state = .powering then { s1 with feed := { s1.feed with capture := some {} } } else s1)

/-- SAMPLE_COMPLETION (R24, R25, R27 to R30). While sampling is stopped no sample completes (R23; log 8). -/
def execSampleCompletion (rawLogic rawDrive : BitVec 12) (s : State) : Host.Outcome State Fault Refusal :=
  .next (if s.feed.sampling then
      match s.feed.capture with
      | some c => s.captureSample c rawLogic rawDrive
      | none =>
        if s.feed.discard then { s with feed := { s.feed with discard := false } }
        else s.compareSample rawLogic rawDrive
    else s)

/-- FEEDS_OFF_COMMAND (R21, R26). -/
def execFeedsOffCommand (s : State) : Host.Outcome State Fault Refusal :=
  let s1 := s.take .feedsOffCommand
  .next (s1.setFeed .coupling { s1.feed with logicOn := false, driveOn := false, capture := none })

/-- FEED_COUPLING_LOST (R22): the feeds-off command given with it is part of this event (log 22). -/
def execFeedCouplingLost (r : LossReason) (s : State) : Host.Outcome State Fault Refusal :=
  .next ((s.take (.feedCouplingLost r)).feedLoss r)

end Sys2Proof.Machine
end

