-- ==== Sys2Proof/Machine/LineCommands.lean ====
section
/-! DEFINITION. The commands of the line unit (chapters 3 and 4): its notices, the ends of calls, answers, windows,
gaps and line clears, the line-held count, and the notice of an abandoned group. What a claimant does with
an answer stands here too (R63 to R71, R125, R152, R153). -/

namespace Sys2Proof.Machine

/-! ### Ends and repeats of call groups -/

/-- The call group ends: no group is in flight (R52). -/
def State.freeLine (s : State) : State := s.setFlight .free

/-- The claimant asks for a further call of its group, which waits for the call gap (R70). -/
def State.askAgain (by_ : Claimant) (c : Call) (s : State) : State := s.setFlight (.gap by_ c)

/-- The claimant a group belongs to; none for a line clear and a release of the list (R49, R53). -/
def Flight.claimant : Flight → Option Claimant
  | .sending c _ => some c
  | .listening c _ => some c
  | .windows _ => some .walker
  | .gap c _ => some c
  | _ => none

/-- The line goes inactive at the line unit (R53, R54): the group in flight abandoned and its claimant told, the
line-clear owed flag clear, the line-held count stopped at 0. The release list, the pointer and the rate stay. -/
def State.lineStandDown (s : State) : State :=
  ({ s with line := { s.line with
      active := false, serving := false, clearOwed := false
      heldRunning := false, heldCount := 0, flight := .free } }).give
    (match s.line.flight.claimant with
     | some c => [.groupAbandoned c]
     | none => [])

/-! ### Calls sent (R38, R49, R153 step 2) -/

/-- A RELEASE of the release list has been sent (R49): the name leaves the list, and the directory unit takes the
release-sent notice in this event (log 3). -/
def State.releaseSent (n : Name) (s : State) : State :=
  (State.takeReleaseSent n (s.leaveRelease n)).freeLine.decideGrant

/-- The MOVE the request unit has in hand: the call in hand and the target of its slot's latched MOVE. -/
def State.moveInHand (s : State) : Option (RequestCall × Name) :=
  match s.req.hand with
  | none => none
  | some h =>
    match (s.slot h.slot).latched with
    | some (.move _ t) => some (h, t)
    | _ => none

/-- The RELEASE that opens a MOVE has been sent (R153 steps 2 and 3): the name leaves the release list (R48, R68), the
directory unit takes the report in this event (log 3), and the CLAIM follows after the gap. Where the coupling-lost
notice has taken the MOVE from the request unit's hand (R156), the name leaves the list all the same, nobody
reports and the group ends (log 16). The CLAIM follows too where the directory unit ignores the report and offers no
target, as R89 lets the MOVE go on to its outcome report, though R83 has a CLAIM sent only for an offered target
(the model's choice: log 44). -/
def State.moveReleaseSent (m : Name) (s : State) : State :=
  let s1 := s.leaveRelease m
  match s.moveInHand with
  | some (h, t) => (s1.takeMoveRelease m t).askAgain .requestUnit (.claim h.ident t)
  | none => s1.freeLine.decideGrant

/-- A claimant's call has been sent (R38, R41, R42). -/
def State.claimantCallSent (by_ : Claimant) (c : Call) (s : State) : State :=
  match c with
  | .release m => s.moveReleaseSent m
  | .seek _ => s.setFlight (.windows [])
  | .claim i n => s.setFlight (.listening by_ (.claim i n))
  | .roll n => s.setFlight (.listening by_ (.roll n))
  | .read n a k => s.setFlight (.listening by_ (.read n a k))
  | .write n a ws => s.setFlight (.listening by_ (.write n a ws))

/-! ### Answers at the walker (R63, R64, R107) -/

/-- The walker takes the answer of its call: a claim accepted ends the group, any other outcome is followed by
the verifying ROLL, and that ROLL's outcome ends the group (R64). -/
def State.walkerAnswer (c : Call) (a : Answer) (s : State) : State :=
  match s.walker.claim with
  | none => s.freeLine.decideGrant
  | some x =>
    match c with
    | .claim i n =>
      if claimHeard i n a = .accepted then (s.freeLine.finishClaim x .success none).decideGrant
      else s.askAgain .walker (.roll n)
    | _ =>
      let (r, st) := verifyResult x.cand.ident a
      (s.freeLine.finishClaim x r st).decideGrant

/-! ### Answers at the roll caller (R69, R125) -/

/-- An answer is CLEAN (R41). -/
def Answer.isClean : Answer → Bool
  | .clean _ => true
  | _ => false

/-- The roll caller takes an attempt's answer: CLEAN, or the last attempt allowed, ends the group; otherwise the
call is repeated after the gap (R69, R125). -/
def State.rollAnswer (c : Call) (a : Answer) (s : State) : State :=
  match s.roll.hand with
  | none => s.freeLine.decideGrant
  | some h =>
    if a.isClean = true ∨ s.callRetries < h.attempts then (s.freeLine.finishRoll h a).decideGrant
    else
      State.askAgain .rollCaller c
        { s with roll := { s.roll with hand := some { h with attempts := h.attempts + 1 } } }

/-! ### Answers at the request unit (R66, R67, R71, R152, R153) -/

/-- The request in hand ends, and with it the call group (R151, R152). -/
def State.finishRequest (k : SlotNo) (r : Result) (ws : List Word) (s : State) : State :=
  let s1 := (s.freeLine).completeRequest k r ws
  State.decideGrant { s1 with req := { s1.req with hand := none } }

/-- The result of a READ or WRITE that no attempt answered CLEAN (R71, R152). -/
def missResult (anyGarbled : Bool) : Result := if anyGarbled then .garbled else .noAnswer

/-- The request unit takes a READ attempt's answer (R66, R69, R71, R152). -/
def State.readAnswer (h : RequestCall) (c : Call) (count : Nat) (a : Answer) (s : State) : State :=
  match a with
  | .clean vals => s.finishRequest h.slot .ok ((wordsOfBytes vals).take count)
  | _ =>
    let g := h.garbled || a.isGarbled
    if s.callRetries < h.attempts then s.finishRequest h.slot (missResult g) []
    else
      State.askAgain .requestUnit c
        { s with req := { s.req with hand := some { h with attempts := h.attempts + 1, garbled := g } } }

/-- The result of a WRITE of `count` words from its one answer (R67, R152). -/
def writeResult (count : Nat) : Answer → Result
  | .clean vals => if vals = [BitVec.ofNat 8 count] then .ok else .garbled
  | .silent => .noAnswer
  | .garbled _ => .garbled

/-- The result of a MOVE from its claim result (R153). -/
def moveResult (claimSilent : Bool) (roll : Answer) : ClaimResult → Result
  | .success => .ok
  | .dispute => .nameTaken
  | .failure => if claimSilent = true ∧ roll = .silent then .noAnswer else .garbled

/-- A MOVE's claim is settled (R153 step 5): the directory unit takes the outcome report in this event (log 3), a
failure gives the pass-wanted notice, and the request ends. -/
def State.finishMove (h : RequestCall) (t : Name) (r : ClaimResult) (st : Option Byte) (roll : Answer)
    (s : State) : State :=
  let s1 := s.takeOutcome t h.ident r st
  let s2 := if r = .failure then s1.give [.passWantedNotice .move] else s1
  s2.finishRequest h.slot (moveResult h.claimSilent roll r) []

/-- The request unit takes the answer of its call. -/
def State.requestAnswer (c : Call) (a : Answer) (s : State) : State :=
  match s.req.hand with
  | none => s.freeLine.decideGrant
  | some h =>
    match c with
    | .read _ _ k => s.readAnswer h c k a
    | .write _ _ ws => s.finishRequest h.slot (writeResult ws.length a) []
    | .claim i t =>
      if claimHeard i t a = .accepted then s.finishMove h t .success none a
      else
        State.askAgain .requestUnit (.roll t)
          { s with req := { s.req with hand := some { h with
            claimSilent := decide (claimHeard i t a = .silent) } } }
    | .roll t =>
      let (r, st) := verifyResult h.ident a
      s.finishMove h t r st a
    | _ => s.freeLine.decideGrant

/-- The claimant of a call takes its answer. -/
def State.claimantAnswer (by_ : Claimant) (c : Call) (a : Answer) (s : State) : State :=
  match by_ with
  | .walker => s.walkerAnswer c a
  | .rollCaller => s.rollAnswer c a
  | .requestUnit => s.requestAnswer c a

/-! ### Line clear (R46) -/

/-- The line-clear-sent notice as it is given to the walker (R46, R117). A WALKING walker takes it in the event of
the clear, before the next grant, so that no call of the walker is in flight when its pass is abandoned (R117;
log 39); in every other state it is given, and taken by its own command. -/
def State.tellWalkerClear (s : State) : State :=
  if s.walker.state = .walking then s.walkerLineClear else s.give [.walkerLineClearSent]

/-- The line clear is sent (R46): the release list emptied, the notices given, the group ended, the next grant
decided. The directory unit takes its notice in this event (log 3). -/
def State.clearSent (s : State) : State :=
  let s1 := { s with line := { s.line with releases := [] } }
  (State.give [.requestLineClearSent] s1.directoryLineClear.tellWalkerClear).freeLine.decideGrant

/-! ### The line-held count (R47) -/

/-- The line-held count after one bit time (R47): a released low line adds, a driven low pauses, a released high
line resets. -/
def heldAfterBit (count : Nat) : LineBit → Nat
  | .driven => count
  | .low => addUpTo Config.heldLimit count 1
  | .high => 0

/-- The line-held count over bit times (R47); it stops when it reaches 64. -/
def LineUnit.countBits (l : LineUnit) : List LineBit → LineUnit
  | [] => l
  | b :: rest =>
    if l.heldRunning then
      let k := heldAfterBit l.heldCount b
      LineUnit.countBits { l with heldCount := k, heldRunning := decide (k < Config.heldLimit) } rest
    else l

/-- A bit time at which the line is low, where the transmitter releases it (R47). -/
def LineBit.released : LineBit → LineBit
  | .driven => .low
  | .low => .low
  | .high => .high

/-- The bit times as the transmitter makes them (R35, R46, R47): it drives the line low through all of a clear's low
part and in low bits of its own call; at every other moment it releases the line, and a line that is low all the
same adds to the count. -/
def State.lineBits (s : State) (bits : List LineBit) : List LineBit :=
  match s.transmitter with
  | .drivingLow => bits.map fun _ => .driven
  | .frame _ => bits
  | .released => bits.map LineBit.released

/-- The line unit counts bit times and gives the line-held notice when the count reaches 64 (R47). -/
def State.countHeld (bits : List LineBit) (s : State) : State :=
  let l := s.line.countBits (s.lineBits bits)
  let s1 := { s with line := l }
  if s.line.heldRunning = true ∧ l.heldRunning = false then s1.give [.lineHeldNotice] else s1

/-- The last window of a seek is number 15 (R42). -/
def windowCount : Nat := 16

/-! ### Meanings -/

/-- LINE_ACTIVE_NOTICE (R37). The notice of entry to DISCOVERING also says that a line clear is owed (R9, R45;
log 35). Taken late, where the coupling is neither DISCOVERING nor SERVING and the line is inactive for it (R50), it is
only taken (the model's choice: log 45). -/
def execLineActiveNotice (s : State) : Host.Outcome State Fault Refusal :=
  let s1 := s.take .lineActiveNotice
  .next (if s1.cm.state.lineOn then
    State.decideGrant { s1 with line := { s1.line with
      active := true, serving := false, clearOwed := true
      heldRunning := true, heldCount := 0, pointer := .requestUnit } }
  else s1)

/-- LINE_INACTIVE_NOTICE (R53, R54). -/
def execLineInactiveNotice (s : State) : Host.Outcome State Fault Refusal :=
  .next (s.take .lineInactiveNotice).lineStandDown

/-- LINE_COUPLING_LOST (R53, R54), for any of the three reasons. -/
def execLineCouplingLost (r : LossReason) (s : State) : Host.Outcome State Fault Refusal :=
  .next (s.take (.lineCouplingLost r)).lineStandDown

/-- LINE_SERVING_NOTICE (R165): all three claimants take part, and a grant is decided. The notice speaks of the coupling's
entry to SERVING; on an inactive line (log 13), or where it is taken late and the coupling has left SERVING, on the
next coupling's line in DISCOVERING too, it is only taken (the model's choice: log 45). -/
def execLineServingNotice (s : State) : Host.Outcome State Fault Refusal :=
  let s1 := s.take .lineServingNotice
  .next (if s1.line.active = true ∧ s1.cm.state = .serving then
    State.decideGrant { s1 with line := { s1.line with serving := true } } else s1)

/-- A roll group whose call the roll caller has no longer in hand: from its coupling-lost notice on no roll is sent
(R131), also before the line unit takes its own notice. -/
def State.rollWithdrawn (by_ : Claimant) (s : State) : Bool :=
  decide (by_ = .rollCaller) && s.roll.hand.isNone

/-- CALL_SENT (R38). A ROLL that the roll caller has no longer in hand is not sent (R131): no answer is awaited and its
group ends (the model's reading: log 46). -/
def execCallSent (s : State) : Host.Outcome State Fault Refusal :=
  .next (match s.line.flight with
    | .releasing n => s.releaseSent n
    | .sending by_ c =>
      if s.rollWithdrawn by_ then s.freeLine.decideGrant else s.claimantCallSent by_ c
    | _ => s)

/-- ANSWER_END (R41): the answer that the falling edges after the call make, handed to the claimant. The bit times of
the answer reach the line-held count by LINE_HELD, as all bit times do (R47, log 7). -/
def execAnswerEnd (edges : List LineEdge) (s : State) : Host.Outcome State Fault Refusal :=
  .next (match s.line.flight with
    | .listening by_ c => s.claimantAnswer by_ c (hearAnswer c edges)
    | _ => s)

/-- WINDOW_END (R43): the window is classified; after the sixteenth all are handed to the walker and the group
ends (R44). The bit times of the window reach the line-held count by LINE_HELD (R47, log 7). -/
def execWindowEnd (edges : List LineEdge) (s : State) : Host.Outcome State Fault Refusal :=
  .next (match s.line.flight with
    | .windows heard =>
      let heard' := heard ++ [hearWindow edges]
      if windowCount ≤ heard'.length then (s.freeLine.handWindows heard').decideGrant
      else s.setFlight (.windows heard')
    | _ => s)

/-- CALL_GAP_END (R70): the next call of the group starts. A ROLL that the roll caller has no longer in hand is not sent, and
its group ends (R131). A call of the walker or the request unit stops at the line unit's own notice alone (R53, R70): where
its claimant has taken the coupling-lost notice and the line unit has not, it is sent all the same (DESIGN CHOICE:
log 46). -/
def execCallGapEnd (s : State) : Host.Outcome State Fault Refusal :=
  .next (match s.line.flight with
    | .gap by_ c =>
      if s.rollWithdrawn by_ then s.freeLine.decideGrant else s.setFlight (.sending by_ c)
    | _ => s)

/-- LINE_CLEAR_LOW_END (R46): the transmitter releases the line for the 16 idle bit times. -/
def execLineClearLowEnd (s : State) : Host.Outcome State Fault Refusal :=
  .next (match s.line.flight with
    | .clearLow => s.setFlight .clearIdle
    | _ => s)

/-- LINE_CLEAR_SENT (R46). -/
def execLineClearSent (s : State) : Host.Outcome State Fault Refusal :=
  .next (match s.line.flight with
    | .clearIdle => s.clearSent
    | _ => s)

/-- LINE_HELD (R47): the bit times that have passed bring the line-held count to 64, the notice is given and the
count stops. Bit times that do not bring it there change the count alone (log 36). Every bit time of an active line
reaches the count here and nowhere else, those of calls, answers, windows and gaps included (log 7). -/
def execLineHeld (s : State) (bits : List LineBit := heldLow) : Host.Outcome State Fault Refusal :=
  .next (s.countHeld bits)

/-- GROUP_ABANDONED (R53): the claimant forgets the call in hand (R116, R129, R156). The roll caller keeps its round until
the coupling-lost notice ends it, and the name in hand is out of the due set (R129); a round left without a due name
stays in progress and gives no round-end notice (DEDUCED from R124 and R129: log 40). The notice names a claimant and no
call: taken late, with a call of the next coupling in hand, it empties that hand, and at the walker that claim and that
seek, whose windows then reach no pass (DESIGN CHOICE: log 49, and log 40 for the roll caller). -/
def execGroupAbandoned (c : Claimant) (s : State) : Host.Outcome State Fault Refusal :=
  let s1 := s.take (.groupAbandoned c)
  .next (match c with
    | .walker => { s1 with walker := { s1.walker with claim := none, seeking := none } }
    | .rollCaller => s1.rollAbandoned
    | .requestUnit => { s1 with req := { s1.req with hand := none } })

end Sys2Proof.Machine
end

