-- ==== Sys2Proof/Machine/WalkerCommands.lean ====
section
/-! DEFINITION. The commands of the discovery walker (chapter 6). -/

namespace Sys2Proof.Machine

/-- The walker is IDLE or SWEEP_DUE: no pass runs and no sweep is in flight (R112, R113). -/
def WalkerState.ready : WalkerState → Bool
  | .idle => true
  | .sweepDue => true
  | _ => false

/-- The walker takes a pass-wanted notice: a pass starts in IDLE and SWEEP_DUE, and work is reported; otherwise
pass-owed is set (R112). -/
def State.takePassWanted (s : State) : State :=
  if s.walker.state.ready then s.wantPass.decideGrant else s.wantPass

/-- FIRST_PASS_NOTICE (R99). In WALKING a pass of this coupling runs already; in every other state a pass starts
(log 18). The notice is that of the entry to DISCOVERING: taken late, where the coupling has left DISCOVERING, it is only
taken (the model's choice: log 45). -/
def execFirstPassNotice (s : State) : Host.Outcome State Fault Refusal :=
  let s1 := s.take .firstPassNotice
  .next (if s1.cm.state ≠ .discovering ∨ s1.walker.state = .walking then s1 else s1.startPass .awaitClear)

/-- PASS_WANTED_NOTICE (R112). The source plays no part. -/
def execPassWantedNotice (source : WantSource) (s : State) : Host.Outcome State Fault Refusal :=
  .next (s.take (.passWantedNotice source)).takePassWanted

/-- RETRY_DUE_NOTICE (R113). Taken late, outside DISCOVERING and SERVING, it starts no pass (log 45). -/
def execRetryDueNotice (s : State) : Host.Outcome State Fault Refusal :=
  let s1 := s.take .retryDueNotice
  .next (match s1.walker.state with
    | .idle => s1.startFurther.decideGrant
    | .sweepDue => s1.startFurther.decideGrant
    | .sweeping => { s1 with walker := { s1.walker with owed := true } }
    | .awaitClear => s1
    | .walking => s1)

/-- The sweep counter after a round (R114). -/
def Walker.countRound (w : Walker) : Walker :=
  { w with sweepCount := addUpTo Config.counterMax w.sweepCount 1 }

/-- A sweep becomes due at a round end (R114). -/
def Walker.sweepNow (w : Walker) : Bool :=
  decide (w.sweepRounds ≠ 0 ∧ w.state = .idle ∧ w.sweepRounds ≤ w.sweepCount)

/-- ROUND_END_NOTICE (R114): taken in SERVING. -/
def execRoundEndNotice (s : State) : Host.Outcome State Fault Refusal :=
  let s1 := s.take .roundEndNotice
  .next (if s1.cm.state = .serving then
      let w := s1.walker.countRound
      if w.sweepNow then State.decideGrant { s1 with walker := { w with state := .sweepDue } }
      else { s1 with walker := w }
    else s1)

/-- WALKER_LINE_CLEAR_SENT (R99, R117): the walker reports work where it is WALKING afterwards. -/
def execWalkerLineClearSent (s : State) : Host.Outcome State Fault Refusal :=
  let s1 := (s.take .walkerLineClearSent).walkerLineClear
  .next (if s1.walker.state = .walking then s1.decideGrant else s1)

/-- WALKER_COUPLING_LOST (R116), for any of the three reasons. -/
def execWalkerCouplingLost (r : LossReason) (s : State) : Host.Outcome State Fault Refusal :=
  .next (s.take (.walkerCouplingLost r)).walkerLoss

end Sys2Proof.Machine
end

