-- ==== Sys2Proof/Machine/DirectoryCommands.lean ====
section
/-! DEFINITION. The commands of the directory unit (chapter 5). A report or notice changes the directory whenever
its command is taken (log 3, log 31); names that join the release list lead to a grant decision (R50). -/

namespace Sys2Proof.Machine

/-- A stored write of a seen word, compared in RUN (R79, R137). -/
def State.writeSeen (n : Name) (v : Word) (s : State) : State :=
  let s1 := { s with port := { s.port with seen := s.port.seen.set n.val v n.isLt } }
  if s1.port.run then s1.decideIfJoined (s1.acknowledge n v) else s1

/-- CLAIM_OUTCOME_REPORT (R84 to R88). -/
def execClaimOutcomeReport (n : Name) (i : Identity) (r : ClaimResult) (st : Option Byte) (s : State) :
    Host.Outcome State Fault Refusal :=
  let s1 := s.take (.claimOutcomeReport n i r st)
  .next (s1.decideIfJoined (s1.takeOutcome n i r st))

/-- DIRECTORY_RELEASE_SENT (R77). -/
def execDirectoryReleaseSent (n : Name) (s : State) : Host.Outcome State Fault Refusal :=
  .next ((s.take (.directoryReleaseSent n)).takeReleaseSent n)

/-- DIRECTORY_LINE_CLEAR_SENT (R95). -/
def execDirectoryLineClearSent (s : State) : Host.Outcome State Fault Refusal :=
  .next (s.take .directoryLineClearSent).directoryLineClear

/-- DIRECTORY_COUPLING_LOST (R94), for any of the three reasons. -/
def execDirectoryCouplingLost (r : LossReason) (s : State) : Host.Outcome State Fault Refusal :=
  .next (s.take (.directoryCouplingLost r)).directoryLoss

/-- MOVE_RELEASE_REPORT (R89 point 1). -/
def execMoveReleaseReport (old target : Name) (s : State) : Host.Outcome State Fault Refusal :=
  .next ((s.take (.moveReleaseReport old target)).takeMoveRelease old target)

/-- MOVE_OUTCOME_REPORT (R88, R89 point 2). -/
def execMoveOutcomeReport (n : Name) (i : Identity) (r : ClaimResult) (st : Option Byte) (s : State) :
    Host.Outcome State Fault Refusal :=
  let s1 := s.take (.moveOutcomeReport n i r st)
  .next (s1.decideIfJoined (s1.takeOutcome n i r st))

/-- ROLL_REPORT (R90, R91). -/
def execRollReport (n : Name) (rep : RollReport) (s : State) : Host.Outcome State Fault Refusal :=
  let s1 := s.take (.rollReport n rep)
  .next (s1.decideIfJoined (s1.takeRollReport n rep))

/-- ACKNOWLEDGEMENT (R79): a host write of name n's seen word. -/
def execAcknowledgement (n : Name) (v : Word) (s : State) : Host.Outcome State Fault Refusal :=
  .next (s.writeSeen n v)

end Sys2Proof.Machine
end

