-- ==== Sys2Proof/Machine/RollCommands.lean ====
section
/-! DEFINITION. The commands of the roll caller (chapter 7). -/

namespace Sys2Proof.Machine

/-- An expiry at the roll caller (R122, R123): the next interval has the ROLL_MS in force (R121). -/
def State.rollExpiry (s : State) : State :=
  let s1 := { s with roll := { s.roll with timer := some s.roll.rollMs } }
  if s1.roll.inProgress then { s1 with roll := { s1.roll with owed := true } }
  else
    let s2 := s1.beginRound
    if s2.roll.due = [] then s2 else s2.decideGrant

/-- ROLL_PERIOD_EXPIRY (R121). A timer that does not run does not expire (log 8). -/
def execRollPeriodExpiry (s : State) : Host.Outcome State Fault Refusal :=
  .next (if s.roll.timer.isSome then s.rollExpiry else s)

/-- The roll period timer may start: the coupling is SERVING, as the roll caller reads it (R2, R121), and the timer is
stopped, as the serving notice always finds it (R132). -/
def State.rollMayStart (s : State) : Bool := decide (s.cm.state = .serving) && s.roll.timer.isNone

/-- ROLL_SERVING_NOTICE (R121, R132): the roll period timer starts. Taken late, where the coupling is no longer SERVING,
the notice starts nothing, so that no round begins before the next entry to SERVING (R131; log 43). -/
def execRollServingNotice (s : State) : Host.Outcome State Fault Refusal :=
  let s1 := s.take .rollServingNotice
  .next (if s1.rollMayStart then { s1 with roll := { s1.roll with timer := some s1.roll.rollMs } } else s1)

/-- ROLL_COUPLING_LOST (R131), for any of the three reasons. -/
def execRollCouplingLost (r : LossReason) (s : State) : Host.Outcome State Fault Refusal :=
  .next (s.take (.rollCouplingLost r)).rollLoss

end Sys2Proof.Machine
end

