-- ==== Sys2Proof/Machine/RequestCommands.lean ====
section
/-! DEFINITION. The commands of the request unit (chapter 9). A post is one ASK write with intent POST: the ASK
word is stored (R134), and the write is judged by the slot's host words as they stand (R144 to R146; log 19). -/

namespace Sys2Proof.Machine

/-! ### Posting (R145, R146) -/

/-- A host write of an ASK word, stored with its unused bits 0 (R134, section 11.5). -/
def State.storeAsk (k : SlotNo) (w : Word) (s : State) : State :=
  s.putSlot k { s.slot k with ask := w &&& 0x03FF#16 }

/-- RESEAT (R154): in SERVING the line clear is owed and the request is ON_LINE; otherwise NOT_COUPLED. -/
def State.judgeReseat (k : SlotNo) (s : State) : State :=
  if s.cm.state = .serving then
    let s1 := s.putSlot k { s.slot k with phase := .onLine, result := .ok, latched := some .reseat, wait := none }
    State.decideGrant { s1 with line := { s1.line with clearOwed := true } }
  else s.completeRequest k .notCoupled []

/-- READ, WRITE and MOVE after the form check: checks 4 to 6 of R146. -/
def State.judgeLine (k : SlotNo) (q : LineRequest) (s : State) : State :=
  match s.cm.state with
  | .discovering => (s.waitForLine k q).decideGrant
  | .serving =>
    match s.entryCheck q with
    | some r => s.completeRequest k r []
    | none => (s.waitForLine k q).decideGrant
  | _ => s.completeRequest k .notCoupled []

/-- SEARCH: a pass-wanted notice to the walker in DISCOVERING and SERVING, which the walker takes in the same
event (R112, R155; log 6). -/
def State.doSearch (s : State) : State × Result :=
  if s.cm.state.lineOn then (s.takePassWanted, .ok) else (s, .notCoupled)

/-- A data word of a slot. -/
def Slot.dataWord (t : Slot) (k : Fin 16) : Word := t.data[k]

/-- A request that passed the form check is decided (R146 checks 3 to 6, R154, R155). -/
def State.judgeRequest (k : SlotNo) (q : Request) (s : State) : State :=
  let t := s.slot k
  match q with
  | .line .reseat => s.judgeReseat k
  | .line q => s.judgeLine k q
  | .forget n =>
    s.decideIfJoined ((s.forget n).completeRequest k (forgetResult (s.entry n).state) [])
  | .search => let (s1, r) := s.doSearch; s1.completeRequest k r []
  | .retime =>
    let (s1, ws) := s.doRetime (t.dataWord 0) (t.dataWord 1) (t.dataWord 2) (t.dataWord 3)
    s1.completeRequest k .ok ws
  | .limits =>
    let (s1, ws) := s.doLimits (t.dataWord 0) (t.dataWord 1) (t.dataWord 2) (t.dataWord 3) (t.dataWord 4)
    s1.completeRequest k .ok ws
  | .drive => let (s1, r) := s.doDrive t.argA; s1.completeRequest k r []
  | .rearm => let (s1, r) := s.doRearm; s1.completeRequest k r []

/-- Checks 1 and 2 of R146, and the rest when they pass. A RETIME or LIMITS that check 1 ends NOT_RUNNING in HOLD writes no
data word: R151 and section 11.5 have the values in force written without naming a result, and R32, R130 and R155 echo
them for a request that is handed on and ends OK (DESIGN CHOICE: log 47). -/
def State.judgeAccepted (k : SlotNo) (s : State) : State :=
  if s.port.run then
    match (s.slot k).request with
    | none => s.completeRequest k .badRequest []
    | some q => s.judgeRequest k q
  else s.completeRequest k .notRunning []

/-- Whether a post is accepted (R145). -/
def Slot.accepts (t : Slot) (ticket : Byte) : Bool :=
  decide (ticket ≠ 0 ∧ ticket ≠ t.ticket ∧ (t.phase = .free ∨ t.phase = .done))

/-- An ASK write with intent POST (R145). -/
def State.post (k : SlotNo) (ticket : Byte) (s : State) : State :=
  let s1 := s.storeAsk k (askWord 1 ticket)
  if (s1.slot k).accepts ticket then
    (s1.putSlot k { s1.slot k with ticket := ticket }).judgeAccepted k
  else s1.raise .misuse

/-- An ASK write with intent WITHDRAW (R150). -/
def State.withdrawAsk (k : SlotNo) (ticket : Byte) (s : State) : State :=
  let s1 := s.storeAsk k (askWord 2 ticket)
  let t := s1.slot k
  if t.phase = .free ∨ ticket ≠ t.ticket then s1.raise .misuse
  else if t.phase = .waiting then s1.completeRequest k .withdrawn []
  else s1

/-- An ASK write with intent 0 or 3: refused, the slot otherwise unchanged (R145, R163). -/
def State.badAsk (k : SlotNo) (intent : Nat) (ticket : Byte) (s : State) : State :=
  (s.storeAsk k (askWord intent ticket)).raise .misuse

/-! ### Meanings -/

/-- READ_REQUEST (R152). -/
def execReadRequest (k : SlotNo) (ticket : Byte) (s : State) : Host.Outcome State Fault Refusal :=
  .next (s.post k ticket)

/-- WRITE_REQUEST (R152). -/
def execWriteRequest (k : SlotNo) (ticket : Byte) (s : State) : Host.Outcome State Fault Refusal :=
  .next (s.post k ticket)

/-- MOVE_REQUEST (R153). -/
def execMoveRequest (k : SlotNo) (ticket : Byte) (s : State) : Host.Outcome State Fault Refusal :=
  .next (s.post k ticket)

/-- FORGET_REQUEST (R92). -/
def execForgetRequest (k : SlotNo) (ticket : Byte) (s : State) : Host.Outcome State Fault Refusal :=
  .next (s.post k ticket)

/-- SEARCH_REQUEST (R155). -/
def execSearchRequest (k : SlotNo) (ticket : Byte) (s : State) : Host.Outcome State Fault Refusal :=
  .next (s.post k ticket)

/-- RESEAT_REQUEST (R154). -/
def execReseatRequest (k : SlotNo) (ticket : Byte) (s : State) : Host.Outcome State Fault Refusal :=
  .next (s.post k ticket)

/-- RETIME_REQUEST (R130). -/
def execRetimeRequest (k : SlotNo) (ticket : Byte) (s : State) : Host.Outcome State Fault Refusal :=
  .next (s.post k ticket)

/-- LIMITS_REQUEST (R32). -/
def execLimitsRequest (k : SlotNo) (ticket : Byte) (s : State) : Host.Outcome State Fault Refusal :=
  .next (s.post k ticket)

/-- DRIVE_REQUEST (R33). -/
def execDriveRequest (k : SlotNo) (ticket : Byte) (s : State) : Host.Outcome State Fault Refusal :=
  .next (s.post k ticket)

/-- REARM_REQUEST (R17, R34). -/
def execRearmRequest (k : SlotNo) (ticket : Byte) (s : State) : Host.Outcome State Fault Refusal :=
  .next (s.post k ticket)

/-- POST_UNKNOWN_KIND (R146). -/
def execPostUnknownKind (k : SlotNo) (ticket : Byte) (s : State) : Host.Outcome State Fault Refusal :=
  .next (s.post k ticket)

/-- WITHDRAW (R150). -/
def execWithdraw (k : SlotNo) (ticket : Byte) (s : State) : Host.Outcome State Fault Refusal :=
  .next (s.withdrawAsk k ticket)

/-- ASK_INVALID_INTENT (R145, R163). -/
def execAskInvalidIntent (k : SlotNo) (ticket : Byte) (three : Bool) (s : State) :
    Host.Outcome State Fault Refusal :=
  .next (s.badAsk k (if three then 3 else 0) ticket)

/-- REQUEST_WAIT_EXPIRY (R149). A timer that does not run does not expire (log 8). -/
def execRequestWaitExpiry (k : SlotNo) (s : State) : Host.Outcome State Fault Refusal :=
  .next (if (s.slot k).phase = .waiting ∧ (s.slot k).wait.isSome = true then
    s.completeRequest k .timedOut [] else s)

/-- REQUEST_LINE_CLEAR_SENT (R154). -/
def execRequestLineClearSent (s : State) : Host.Outcome State Fault Refusal :=
  .next ((s.take .requestLineClearSent).endSlots Slot.reseated)

/-- REQUEST_COUPLING_LOST (R156). -/
def execRequestCouplingLost (r : LossReason) (s : State) : Host.Outcome State Fault Refusal :=
  .next ((s.take (.requestCouplingLost r)).requestLoss r)

/-- REQUEST_SERVING_NOTICE (R165): the request unit reports work if its post-order list is not empty. -/
def execRequestServingNotice (s : State) : Host.Outcome State Fault Refusal :=
  let s1 := s.take .requestServingNotice
  .next (if s1.req.postOrder = [] then s1 else s1.decideGrant)

/-- REQUEST_DISCOVERING_NOTICE (R9): the request unit takes it; it reads the coupling state itself at each post
(R2, R146; log 12). -/
def execRequestDiscoveringNotice (s : State) : Host.Outcome State Fault Refusal :=
  .next (s.take .requestDiscoveringNotice)

end Sys2Proof.Machine
end

