-- ==== Sys2Proof/Machine/PortCommands.lean ====
section
/-! DEFINITION. The commands of the exchange port and the run state (chapters 8 and 10): hard reset, RUN entry, soft
hold, the registers, and a host write to any word address. -/

namespace Sys2Proof.Machine

/-! ### RUN entry (R160, R161) -/

/-- The parameter words and the class map after the clamp (R160 steps 1 to 3), the run state RUN (R161). -/
def ExchangePort.entered (p : ExchangePort) : ExchangePort :=
  { p with run := true, params := p.params.clamped, classMap := p.classMap.map ClassEntry.clamped }

/-- At least one word changes at the clamp (R160 step 4). -/
def ExchangePort.clampChanges (p : ExchangePort) : Bool :=
  decide (p.params.clamped ≠ p.params ∨ p.classMap.map ClassEntry.clamped ≠ p.classMap)

/-- The RUN entry clamp: words in range, ALERT.CLAMPED once when one changed (R160). -/
def State.clampSettings (s : State) : State :=
  let s1 := { s with port := s.port.entered }
  if s.port.clampChanges then s1.raise .clamped else s1

/-- Each block takes its values in force from the parameter words (R161 step 2). A SWEEP_ROUNDS of 0 drops no due sweep here,
as it does at RETIME (R118): a walker that is SWEEP_DUE because it has not yet taken the coupling-lost notice with reason
HOLD drops the sweep with that notice (R116; DESIGN CHOICE: log 50). -/
def State.takeValues (s : State) : State :=
  let p := s.port.params
  { s with
    line := { s.line with rate := lineRateOf p.lineRate }
    cm := { s.cm with
      settleMs := p.settleMs.toNat, powerWaitMs := p.powerWaitMs.toNat, passRetryMs := p.passRetryMs.toNat }
    feed := { s.feed with limits := limitsOf p.logicLimit p.driveLimit p.sumLimit p.tripA p.tripB }
    walker := { s.walker with passAttempts := p.passAttempts.toNat, sweepRounds := p.sweepRounds.toNat }
    roll := { s.roll with
      rollMs := p.rollMs.toNat, strikeLimit := p.strikeLimit.toNat, keepRounds := p.keepRounds.toNat }
    callRetries := p.callRetries.toNat
    req := { s.req with waitMs := p.requestWaitMs.toNat }
    dir := { s.dir with ackMask := ackMaskOf p.ackMask } }

/-- Every seen word of the names listed is compared with its entry's GEN (R80). -/
def State.evaluateSeen : List Name → State → State
  | [], s => s
  | n :: rest, s => State.evaluateSeen rest (s.acknowledge n s.port.seen[n])

/-- The coupling monitor at RUN entry: both levels written, OPEN or MAKING entered (R18). -/
def State.monitorEntry (s : State) : State :=
  let c := { s.cm with
    shownFirst := s.cm.first, shownLast := s.cm.last, partialMate := false, cause := .none }
  if s.cm.first = true ∨ s.cm.last = true then
    (s.setMonitor { c.startSettle with state := .making }).give [.sampleNotice, .feedsOffCommand]
  else (s.setMonitor { c with state := .opened }).give [.stopNotice, .feedsOffCommand]

/-- RUN entry (R161). -/
def State.enterRun (s : State) : State :=
  let s1 := s.clampSettings.takeValues
  let s2 := State.evaluateSeen allNames (s1.lowerLive s1.roll.strikeLimit s1.roll.keepRounds)
  (s1.decideIfJoined s2).monitorEntry

/-- A host write of 1 to RUNCTL.RUN (R139). -/
def State.writeRunOne (s : State) : State := if s.port.run then s else s.enterRun

/-! ### Soft hold (R19, R162) -/

/-- The coupling monitor at soft hold (R19): DORMANT, every timer stopped, the stop notice and the coupling-lost
notice with reason HOLD. The feed supervisor takes its own in this event (log 38), so that it is not given on. -/
def State.monitorHold (s : State) : State :=
  (s.setMonitor { s.cm.stopWaits with
      state := .dormant, settle := none, partialMate := false, cause := .none }).give
    (.stopNotice :: (lossGiven s.cm.state .hold).erase (.feedCouplingLost .hold))

/-- Soft hold (R162). In RUN the coupling is never DORMANT; a DORMANT monitor has nothing to stand down (R19). -/
def State.softHold (s : State) : State :=
  let s1 := { s with port := { s.port with run := false } }
  if s.cm.state = .dormant then s1 else (s1.feedLoss .hold).monitorHold

/-- A host write of 0 to RUNCTL.RUN (R139). -/
def State.writeRunZero (s : State) : State := if s.port.run then s.softHold else s

/-! ### Registers (R140, R141) -/

/-- A host write to ALERT clears every flag whose bit is 1 (R140). -/
def State.clearAlerts (v : Word) (s : State) : State :=
  { s with port := { s.port with alert := s.port.alert &&& ~~~(v.setWidth 7) } }

/-- A host write to ALERTMASK (R141). -/
def State.setAlertMask (v : Word) (s : State) : State :=
  { s with port := { s.port with alertMask := v.setWidth 7 } }

/-! ### A host write (R134, R135, R137) -/

/-- A class map entry with one word written (section 11.2). -/
def ClassEntry.write (c : ClassEntry) (v : Word) : Nat → ClassEntry
  | 0 => { c with low := v.extractLsb' 0 8, high := v.extractLsb' 8 8 }
  | _ => { c with role := v.extractLsb' 0 8 }

/-- A slot with one of its words 2 to 4 or 8 to 23 written (section 11.5). -/
def Slot.write (t : Slot) (v : Word) : Nat → Slot
  | 2 => { t with kind := v.extractLsb' 0 8, name := v.extractLsb' 8 8 }
  | 3 => { t with argA := v }
  | 4 => { t with count := v }
  | k => if h : 8 ≤ k ∧ k < 24 then { t with data := t.data.set (k - 8) v (by omega) } else t

/-- A dropped write: the word is unchanged, ALERT.MISUSE is raised (R135). -/
def State.dropWrite (s : State) : State := s.raise .misuse

/-- A write of an ASK word, by its intent (R145, R163). -/
def State.writeAsk (k : SlotNo) (v : Word) (s : State) : State :=
  match askIntent v with
  | .post => s.post k (askTicket v)
  | .withdraw => s.withdrawAsk k (askTicket v)
  | .other => s.badAsk k (v.extractLsb' 8 2).toNat (askTicket v)

/-- A stored write, by the area of its word. A write to a watched word or a register has that word's effect
(R137, R139 to R141; log 20). -/
def State.storeWord (a : Area) (v : Word) (s : State) : State :=
  match a with
  | .param k => { s with port := { s.port with params := s.port.params.store v k } }
  | .classMap c k =>
    { s with port := { s.port with
      classMap := s.port.classMap.set c.val (s.port.classMap[c].write v k) c.isLt } }
  | .seen n => s.writeSeen n v
  | .slot j k => if k = 0 then s.writeAsk j v else s.putSlot j ((s.slot j).write v k)
  | .runctl => if v.getLsbD 0 then s.writeRunOne else s.writeRunZero
  | .alert => s.clearAlerts v
  | .alertmask => s.setAlertMask v
  | .record _ => s
  | .directory _ _ => s
  | .ident => s
  | .unlisted => s

/-! ### Meanings -/

/-- HARD_RESET (R157): assertion and release of RESET in one command. Every piece of the part's state takes its
hard-reset value, and the contacts are sensed at the release (log 9, log 21). -/
def execHardReset (first last : Bool) (s : State) : Host.Outcome State Fault Refusal :=
  .next { State.reset with
    cm := { State.reset.cm with first := first, last := last }, pending := s.pending }

/-- RUN_ENTRY (R161). -/
def execRunEntry (s : State) : Host.Outcome State Fault Refusal := .next s.writeRunOne

/-- SOFT_HOLD (R162). -/
def execSoftHold (s : State) : Host.Outcome State Fault Refusal := .next s.writeRunZero

/-- ALERT_CLEAR (R140). -/
def execAlertClear (v : Word) (s : State) : Host.Outcome State Fault Refusal := .next (s.clearAlerts v)

/-- ALERTMASK_WRITE (R141). -/
def execAlertmaskWrite (v : Word) (s : State) : Host.Outcome State Fault Refusal := .next (s.setAlertMask v)

/-- BOTH_STROBES (R133): neither a read nor a write; ALERT.MISUSE. -/
def execBothStrobes (s : State) : Host.Outcome State Fault Refusal := .next (s.raise .misuse)

/-- HOST_WRITE (R134, R135): stored when the host is the word's writer, dropped otherwise. -/
def execHostWrite (addr : BitVec 11) (v : Word) (s : State) : Host.Outcome State Fault Refusal :=
  .next (if s.hostWrites addr then s.storeWord (areaOf addr) v else s.dropWrite)

end Sys2Proof.Machine
end

