-- ==== Sys2Proof/Machine/Dispatch.lean ====
section
/-! DEFINITION. One arm for each command: one direct call of its meaning. -/

namespace Sys2Proof.Machine

def exec (i : Instr) (s : State) : Host.Outcome State Fault Refusal :=
  match i with
  | .hardReset first last => Sys2Proof.Machine.execHardReset first last s
  | .contactEdge contact closed => Sys2Proof.Machine.execContactEdge contact closed s
  | .settleExpiry => Sys2Proof.Machine.execSettleExpiry s
  | .logicOnReport => Sys2Proof.Machine.execLogicOnReport s
  | .powerWaitExpiry => Sys2Proof.Machine.execPowerWaitExpiry s
  | .passEndReport result followUp => Sys2Proof.Machine.execPassEndReport result followUp s
  | .passStartReport => Sys2Proof.Machine.execPassStartReport s
  | .passRetryExpiry => Sys2Proof.Machine.execPassRetryExpiry s
  | .stageBNotice => Sys2Proof.Machine.execStageBNotice s
  | .lineHeldNotice => Sys2Proof.Machine.execLineHeldNotice s
  | .runEntry => Sys2Proof.Machine.execRunEntry s
  | .softHold => Sys2Proof.Machine.execSoftHold s
  | .sampleNotice => Sys2Proof.Machine.execSampleNotice s
  | .stopNotice => Sys2Proof.Machine.execStopNotice s
  | .captureNotice => Sys2Proof.Machine.execCaptureNotice s
  | .sampleCompletion rawLogic rawDrive => Sys2Proof.Machine.execSampleCompletion rawLogic rawDrive s
  | .feedsOffCommand => Sys2Proof.Machine.execFeedsOffCommand s
  | .feedCouplingLost reason => Sys2Proof.Machine.execFeedCouplingLost reason s
  | .lineActiveNotice => Sys2Proof.Machine.execLineActiveNotice s
  | .lineInactiveNotice => Sys2Proof.Machine.execLineInactiveNotice s
  | .lineCouplingLost reason => Sys2Proof.Machine.execLineCouplingLost reason s
  | .lineServingNotice => Sys2Proof.Machine.execLineServingNotice s
  | .callSent => Sys2Proof.Machine.execCallSent s
  | .answerEnd edges => Sys2Proof.Machine.execAnswerEnd edges s
  | .windowEnd edges => Sys2Proof.Machine.execWindowEnd edges s
  | .callGapEnd => Sys2Proof.Machine.execCallGapEnd s
  | .lineClearLowEnd => Sys2Proof.Machine.execLineClearLowEnd s
  | .lineClearSent => Sys2Proof.Machine.execLineClearSent s
  | .lineHeld bits => Sys2Proof.Machine.execLineHeld s bits
  | .groupAbandoned claimant => Sys2Proof.Machine.execGroupAbandoned claimant s
  | .firstPassNotice => Sys2Proof.Machine.execFirstPassNotice s
  | .passWantedNotice source => Sys2Proof.Machine.execPassWantedNotice source s
  | .retryDueNotice => Sys2Proof.Machine.execRetryDueNotice s
  | .roundEndNotice => Sys2Proof.Machine.execRoundEndNotice s
  | .walkerLineClearSent => Sys2Proof.Machine.execWalkerLineClearSent s
  | .walkerCouplingLost reason => Sys2Proof.Machine.execWalkerCouplingLost reason s
  | .claimOutcomeReport name ident result status => Sys2Proof.Machine.execClaimOutcomeReport name ident result status s
  | .directoryReleaseSent name => Sys2Proof.Machine.execDirectoryReleaseSent name s
  | .directoryLineClearSent => Sys2Proof.Machine.execDirectoryLineClearSent s
  | .directoryCouplingLost reason => Sys2Proof.Machine.execDirectoryCouplingLost reason s
  | .moveReleaseReport old target => Sys2Proof.Machine.execMoveReleaseReport old target s
  | .moveOutcomeReport name ident result status => Sys2Proof.Machine.execMoveOutcomeReport name ident result status s
  | .rollReport name report => Sys2Proof.Machine.execRollReport name report s
  | .acknowledgement name value => Sys2Proof.Machine.execAcknowledgement name value s
  | .rollPeriodExpiry => Sys2Proof.Machine.execRollPeriodExpiry s
  | .rollServingNotice => Sys2Proof.Machine.execRollServingNotice s
  | .rollCouplingLost reason => Sys2Proof.Machine.execRollCouplingLost reason s
  | .readRequest slot ticket => Sys2Proof.Machine.execReadRequest slot ticket s
  | .writeRequest slot ticket => Sys2Proof.Machine.execWriteRequest slot ticket s
  | .moveRequest slot ticket => Sys2Proof.Machine.execMoveRequest slot ticket s
  | .forgetRequest slot ticket => Sys2Proof.Machine.execForgetRequest slot ticket s
  | .searchRequest slot ticket => Sys2Proof.Machine.execSearchRequest slot ticket s
  | .reseatRequest slot ticket => Sys2Proof.Machine.execReseatRequest slot ticket s
  | .retimeRequest slot ticket => Sys2Proof.Machine.execRetimeRequest slot ticket s
  | .limitsRequest slot ticket => Sys2Proof.Machine.execLimitsRequest slot ticket s
  | .driveRequest slot ticket => Sys2Proof.Machine.execDriveRequest slot ticket s
  | .rearmRequest slot ticket => Sys2Proof.Machine.execRearmRequest slot ticket s
  | .withdraw slot ticket => Sys2Proof.Machine.execWithdraw slot ticket s
  | .askInvalidIntent slot ticket three => Sys2Proof.Machine.execAskInvalidIntent slot ticket three s
  | .requestWaitExpiry slot => Sys2Proof.Machine.execRequestWaitExpiry slot s
  | .requestLineClearSent => Sys2Proof.Machine.execRequestLineClearSent s
  | .requestCouplingLost reason => Sys2Proof.Machine.execRequestCouplingLost reason s
  | .requestServingNotice => Sys2Proof.Machine.execRequestServingNotice s
  | .requestDiscoveringNotice => Sys2Proof.Machine.execRequestDiscoveringNotice s
  | .alertClear value => Sys2Proof.Machine.execAlertClear value s
  | .alertmaskWrite value => Sys2Proof.Machine.execAlertmaskWrite value s
  | .bothStrobes => Sys2Proof.Machine.execBothStrobes s
  | .hostWrite addr value => Sys2Proof.Machine.execHostWrite addr value s
  | .postUnknownKind slot ticket => Sys2Proof.Machine.execPostUnknownKind slot ticket s

end Sys2Proof.Machine
end

