-- ==== Sys2Proof/Machine/Device.lean ====
section
/-! DEFINITION. The device-side contract (R55 to R59): what the part relies on at the other end of the line. A device is
no part of State: it is another agent, and what it drives reaches the part as the edges of ANSWER_END and
WINDOW_END. -/

namespace Sys2Proof.Machine

/-- A device on the tool: fixed identity and class, a status byte, and its name state (R55, R59). -/
structure Device where
  ident : Identity
  cls : Byte
  status : Byte
  name : Option Name
  deriving DecidableEq, Repr

/-- What happens at a device (R55). The part sends no RELEASE to 63. -/
inductive DeviceEvent where
  | powerApplied
  | powerLost
  | call (c : Call)
  | lineClear
  deriving DecidableEq, Repr

/-- The device's name state after an event (R55, R57). -/
def Device.nameAfter (d : Device) : DeviceEvent → Option Name
  | .powerApplied => none
  | .powerLost => none
  | .lineClear => none
  | .call (.claim i n) => if d.name = none ∧ i = d.ident then some n else d.name
  | .call (.release n) => if d.name = some n then none else d.name
  | .call _ => d.name

/-- The device after an event (R55). -/
def Device.after (d : Device) (e : DeviceEvent) : Device := { d with name := d.nameAfter e }

/-- A frame's values with the check appended (R40). -/
def withCheck (vals : List Byte) : List Byte := vals ++ [checkOf vals]

/-- The values a device answers a correct call with, the check included; `none` is silence (R57). `words` are the
words that a READ finds in the register space (R59). -/
def Device.answer (d : Device) (words : List Word) : Call → Option (List Byte)
  | .seek p => if d.name = none ∧ hasPrefix d.ident p = true then
      some (withCheck (identityBytes d.ident ++ [d.cls])) else none
  | .claim i n => if d.name = none ∧ i = d.ident then
      some (withCheck (identityBytes d.ident ++ [d.cls, nameByte n])) else none
  | .roll n => if d.name = some n then
      some (withCheck (identityBytes d.ident ++ [d.cls, d.status])) else none
  | .read n _ _ => if d.name = some n then some (withCheck (words.flatMap wordBytes)) else none
  | .write n _ ws => if d.name = some n then some (withCheck [BitVec.ofNat 8 ws.length]) else none
  | .release _ => none

/-- The window in which an unnamed device answers a seek of length L: its digit d(L) (R57, R61). -/
def Device.window (d : Device) (p : Prefix) : Nat := (digitAt d.ident p.length).toNat

/-- The falling edge that begins a device's character: no marker, well framed (R35, R57). -/
def startEdge (t : Nat) (v : Byte) : LineEdge := ⟨t, true, v, false, true⟩

/-- The start edges of an answer, each character with the time from its stop-bit sample to the next falling edge.
The falling edges inside a character are left out, since the receiver does not look for them (R39). -/
def answerEdges : Nat → List (Byte × Nat) → List LineEdge
  | _, [] => []
  | t, (v, gap) :: rest => startEdge t v :: answerEdges (t + Config.stopAfter + gap) rest

/-- An ordinary answer starts in time: within 23 bit times of the call (R58). -/
def startsInTime (t : Nat) : Bool := decide (t ≤ 23 * Config.bitTime)

/-- A seek answer starts in time: within the first 8 bit times of its window (R58). -/
def startsInWindow (t : Nat) : Bool := decide (t ≤ 8 * Config.bitTime)

/-- The gap after a stop-bit sample that the contract allows inside an ordinary answer: at most 21.5 bit times
(R58). -/
def gapAllowed (g : Nat) : Bool := decide (g ≤ 2150)

/-- Back to back: the next falling edge comes half a bit time after the stop-bit sample (R35, R58). -/
def backToBack : Nat := 50

end Sys2Proof.Machine
end

