-- ==== Sys2Proof/Safety.lean ====
section
/-! DEFINITION. What counts as a sound state of the part, block by block, in the terms the statements use. Each
structure is an invariant: the values after a hard reset meet it and every command keeps it. -/

namespace Sys2Proof.Machine

/-! ### Coupling monitor (chapter 1) -/

/-- The coupling monitor's state holds together (R2, R6, R7, R13 to R16, section 1.2, section 1.8). -/
structure MonitorInv (s : State) : Prop where
  /-- HOLD is DORMANT -/
  hold : s.port.run = false ↔ s.cm.state = .dormant
  /-- in POWERING, DISCOVERING and SERVING both contacts are closed (R13) -/
  closed : s.cm.state.coupled = true → s.cm.first = true ∧ s.cm.last = true
  /-- in OPEN both contacts are open (R5) -/
  opened : s.cm.state = .opened → s.cm.first = false ∧ s.cm.last = false
  /-- outside DORMANT the record shows the levels sensed (R1) -/
  shown : s.cm.state ≠ .dormant → s.cm.shownFirst = s.cm.first ∧ s.cm.shownLast = s.cm.last
  /-- the settle timer runs in MAKING alone (section 1.3) -/
  settle : s.cm.settle ≠ none → s.cm.state = .making
  /-- the power-wait timer runs in POWERING alone -/
  powerWait : s.cm.powerWait ≠ none → s.cm.state = .powering
  /-- the pass-retry timer runs in SERVING alone (R11) -/
  passRetry : s.cm.passRetry ≠ none → s.cm.state = .serving
  /-- PARTIAL is set in MAKING alone, with exactly one contact closed (R7) -/
  half : s.cm.partialMate = true → s.cm.state = .making ∧ s.cm.first ≠ s.cm.last
  /-- in MAKING the settle timer is stopped exactly while PARTIAL is set (R6, R7) -/
  waits : s.cm.state = .making → (s.cm.settle = none ↔ s.cm.partialMate = true)
  /-- there is a fault cause exactly in FAULTED (R14 to R17) -/
  cause : s.cm.cause ≠ .none ↔ s.cm.state = .faulted

/-! ### Feed supervisor (chapter 2) -/

/-- The limits in force are in range (R32). -/
def Limits.inRange (l : Limits) : Prop :=
  1 ≤ l.logic ∧ l.logic ≤ 4095 ∧ 1 ≤ l.drive ∧ l.drive ≤ 4095 ∧ 1 ≤ l.sum ∧ l.sum ≤ 8190 ∧
  1 ≤ l.tripA ∧ l.tripA ≤ 254 ∧ 2 ≤ l.tripB ∧ l.tripB ≤ 255 ∧ l.tripA < l.tripB

/-- The feed supervisor's state holds together (R20, R25, R28, R31, R32). -/
structure FeedInv (s : State) : Prop where
  /-- DRIVE is on only while LOGIC is on and the trip-A latch is clear (R20) -/
  drive : s.feed.driveOn = true → s.feed.logicOn = true ∧ s.feed.latch = false
  /-- a pedestal is at most 255 (R25) -/
  pedestals : s.feed.pedLogic ≤ 255 ∧ s.feed.pedDrive ≤ 255
  /-- the run counter is at most 255 (R28) -/
  run : s.feed.run ≤ 255
  /-- a capture in progress has taken fewer than 8 samples (R25) -/
  capture : ∀ c, s.feed.capture = some c → c.taken < 8
  /-- a set latch stands with a trip of stage A or B (R29, R30, R34) -/
  tripped : s.feed.latch = true → s.feed.trip.stage ≠ .none
  /-- while the latch is set the live words hold the tripping sample's readings (R31) -/
  frozen : s.feed.latch = true →
    s.feed.live.rawLogic = s.feed.trip.readings.rawLogic ∧
    s.feed.live.rawDrive = s.feed.trip.readings.rawDrive ∧
    s.feed.live.corrLogic = s.feed.trip.readings.corrLogic ∧
    s.feed.live.corrDrive = s.feed.trip.readings.corrDrive
  limits : s.feed.limits.inRange

/-! ### Generation words (R73, R142) -/

/-- Every GEN is even between events. -/
structure GenInv (s : State) : Prop where
  record : genEven s.port.recGen = true
  entries : ∀ n : Name, genEven (s.entry n).gen = true

/-! ### Line unit (chapter 3) -/

/-- The line unit's state holds together (R37, R42, R47, R48, R50). -/
structure LineInv (s : State) : Prop where
  /-- a call group is in flight only while the line is active (R50) -/
  flight : s.line.flight ≠ .free → s.line.active = true
  /-- the line-held count runs only while the line is active (R37) -/
  held : s.line.heldRunning = true → s.line.active = true
  heldCount : s.line.heldCount ≤ 64
  /-- the line-held count stops when it reaches 64 (R47) -/
  heldBelow : s.line.heldRunning = true → s.line.heldCount < 64
  serving : s.line.serving = true → s.line.active = true
  /-- the release list is ascending, each name at most once (R48) -/
  releases : s.line.releases.Pairwise (· < ·)
  /-- a seek in flight has fewer than 16 windows behind it (R42) -/
  windows : ∀ heard, s.line.flight = .windows heard → heard.length < 16

/-! ### Directory (chapter 5) -/

/-- What R72 lets an entry hold in its state. -/
structure EntryOk (e : Entry) : Prop where
  vacant : e.state = .vacant → e.ident = 0 ∧ e.cls = 0 ∧ e.role = 0 ∧ e.devstat = 0 ∧ e.stamp = 0 ∧
    e.sticky = false ∧ e.conflict = false ∧ e.outside = false
  /-- KEEP is nonzero in STALE alone (R74) -/
  keep : e.keep ≠ 0 → e.state = .stale
  /-- STRIKES is nonzero in BOUND and HELD alone (R74) -/
  strikes : e.strikes ≠ 0 → e.state = .bound ∨ e.state = .held
  /-- RELEASE_OWED is set in VACANT and DISPUTED alone (R76) -/
  owed : e.owed = true → e.state = .vacant ∨ e.state = .disputed
  /-- CONFLICT is set in OFFERED, DISPUTED and RETIRING alone (R72) -/
  conflict : e.conflict = true → e.state = .offered ∨ e.state = .disputed ∨ e.state = .retiring

/-- The offer record fits its entry while that entry is OFFERED (R83, R89). -/
structure OfferOk (s : State) (o : Offer) : Prop where
  ident : (s.entry o.name).ident = o.ident
  prior : o.prior.state = .vacant ∨ o.prior.ident = o.ident
  /-- what a loss of the coupling restores is never OFFERED, HELD, BOUND or DISPUTED (R94) -/
  restores : o.prior.state = .vacant ∨ o.prior.state = .stale ∨ o.prior.state = .retiring
  /-- an entry that owes a release is not offered (R81, R83) -/
  free : o.prior.owed = false

/-- The directory holds together (R72, R74, R76, R83). -/
structure DirInv (s : State) : Prop where
  entries : ∀ n : Name, EntryOk (s.entry n)
  /-- no two entries outside VACANT hold the same identity (R72) -/
  unique : ∀ n m : Name, n ≠ m → (s.entry n).state ≠ .vacant → (s.entry m).state ≠ .vacant →
    (s.entry n).ident ≠ (s.entry m).ident
  prior : ∀ o, s.dir.offer = some o → EntryOk o.prior
  offer : ∀ o, s.dir.offer = some o → (s.entry o.name).state = .offered → OfferOk s o

/-- An entry state that R94 allows in DISCOVERING and SERVING alone. -/
def EntryState.coupledOnly : EntryState → Bool
  | .offered => true
  | .held => true
  | .bound => true
  | .disputed => true
  | _ => false

/-- Outside DISCOVERING and SERVING no entry is OFFERED, HELD, BOUND or DISPUTED and the offer record is empty (R94),
from the moment the directory unit has taken the coupling-lost notice. -/
structure QuietInv (s : State) : Prop where
  entries : ∀ n : Name, (s.entry n).state.coupledOnly = true →
    s.cm.state.lineOn = true ∨ ∃ r, .directoryCouplingLost r ∈ s.given
  offer : s.dir.offer ≠ none → s.cm.state.lineOn = true ∨ ∃ r, .directoryCouplingLost r ∈ s.given
  /-- roll reports are taken in SERVING alone, up to the notice (R90, R129) -/
  reports : s.dir.serving = true → s.cm.state = .serving ∨ ∃ r, .directoryCouplingLost r ∈ s.given

/-- The live fields keep to the limits in force, also in what the offer record restores (R72, R74, R130). -/
structure LiveInv (s : State) : Prop where
  /-- STRIKES is below STRIKE_LIMIT -/
  strikes : ∀ n : Name, (s.entry n).strikes < s.roll.strikeLimit
  /-- KEEP is at most KEEP_ROUNDS -/
  keep : ∀ n : Name, (s.entry n).keep ≤ s.roll.keepRounds
  /-- in STALE it is 1 at least -/
  stale : ∀ n : Name, (s.entry n).state = .stale → 1 ≤ (s.entry n).keep
  priorKeep : ∀ o, s.dir.offer = some o → o.prior.keep ≤ s.roll.keepRounds
  priorKind : ∀ o, s.dir.offer = some o → o.prior.keep ≠ 0 → o.kind = .ret
  priorStrikes : ∀ o, s.dir.offer = some o → o.kind = .ret → o.prior.strikes = 0
  priorStale : ∀ o, s.dir.offer = some o → o.prior.state = .stale → 1 ≤ o.prior.keep

/-! ### Discovery walker (chapter 6) -/

/-- Every running count is at most 255 (R107). -/
def PassCounts.inRange (c : PassCounts) : Prop :=
  c.seeks ≤ 255 ∧ c.found ≤ 255 ∧ c.returned ≤ 255 ∧ c.reclaimed ≤ 255 ∧ c.phantom ≤ 255 ∧
  c.unresolved ≤ 255 ∧ c.dropped ≤ 255 ∧ c.noRoom ≤ 255

/-- The walker's state holds together (R100, R107, R111, R114). -/
structure WalkerInv (s : State) : Prop where
  stack : s.walker.stack.length ≤ 24
  prefixes : ∀ p ∈ s.walker.stack, p.length ≤ 11
  counts : s.walker.counts.inRange
  record : s.walker.record.counts.inRange
  attempts : s.walker.attempts ≤ 8
  sweepCount : s.walker.sweepCount ≤ 255

/-! ### Roll caller (chapter 7) -/

/-- The roll caller's state holds together (R122 to R124). -/
structure RollInv (s : State) : Prop where
  /-- the due set is ascending, each name at most once -/
  due : s.roll.due.Pairwise (· < ·)
  /-- names are due in a round alone (R122, R124) -/
  round : s.roll.due ≠ [] → s.roll.inProgress = true
  owed : s.roll.owed = true → s.roll.inProgress = true

/-! ### Standing idle without a coupling (section 1.2, R4, R12) -/

/-- Outside the coupling states in which it works a block stands idle, from the moment it has taken its coupling-lost
notice (R4, R12; log 45). -/
structure IdleInv (s : State) : Prop where
  /-- LOGIC is on in POWERING, DISCOVERING and SERVING alone (R4, R22) -/
  logic : s.feed.logicOn = true → s.cm.state.coupled = true ∨ ∃ r, .feedCouplingLost r ∈ s.given
  /-- a pedestal capture belongs to a coupling (R25, R26) -/
  capture : s.feed.capture ≠ none → s.cm.state.coupled = true ∨ ∃ r, .feedCouplingLost r ∈ s.given
  /-- the line is active in DISCOVERING and SERVING alone (R4, R50) -/
  line : s.line.active = true → s.cm.state.lineOn = true ∨ ∃ r, .lineCouplingLost r ∈ s.given
  /-- the roll caller and the request unit take part in SERVING alone (R51) -/
  serving : s.line.serving = true → s.cm.state = .serving ∨ ∃ r, .lineCouplingLost r ∈ s.given
  /-- a pass or a sweep belongs to DISCOVERING and SERVING (R112, R116) -/
  walker : s.walker.state ≠ .idle → s.cm.state.lineOn = true ∨ ∃ r, .walkerCouplingLost r ∈ s.given
  /-- the roll period timer runs in SERVING alone (R121, R132) -/
  timer : s.roll.timer ≠ none → s.cm.state = .serving ∨ ∃ r, .rollCouplingLost r ∈ s.given
  /-- no round is in progress while the timer is stopped (R131, R132) -/
  round : s.roll.timer = none → s.roll.inProgress = false
  /-- no roll is in hand while the timer is stopped (R131, R132) -/
  hand : s.roll.timer = none → s.roll.hand = none

/-! ### Request board (chapter 9) -/

/-- The post-order list and the slots agree (R144, R147). -/
structure BoardInv (s : State) : Prop where
  once : s.req.postOrder.Nodup
  /-- the list holds exactly the WAITING slots (R147) -/
  waiting : ∀ k : SlotNo, k ∈ s.req.postOrder ↔ (s.slot k).phase = .waiting
  /-- a wait timer runs exactly while its slot is WAITING (R147) -/
  timers : ∀ k : SlotNo, (s.slot k).wait.isSome = true ↔ (s.slot k).phase = .waiting
  /-- a latched request stands exactly in WAITING and ON_LINE (R144, R151) -/
  latched : ∀ k : SlotNo, (s.slot k).latched.isSome = true ↔
    (s.slot k).phase = .waiting ∨ (s.slot k).phase = .onLine
  /-- a RESEAT never waits in the list (R154) -/
  reseat : ∀ k : SlotNo, (s.slot k).phase = .waiting → (s.slot k).latched ≠ some .reseat
  /-- the result is OK until the request ends (R144) -/
  result : ∀ k : SlotNo, (s.slot k).phase ≠ .done → (s.slot k).result = .ok

/-! ### Settings (chapter 10) -/

/-- In RUN every setting is in range and every value in force is the one its word shows (R158, R160, R161; the
introduction of chapter 10). -/
structure SettingsInv (s : State) : Prop where
  params : s.port.run = true → s.port.params.clamped = s.port.params
  classMap : s.port.run = true → s.port.classMap.map ClassEntry.clamped = s.port.classMap
  inForce : s.port.run = true → s.takeValues = s

/-- Every value in force is in range, in HOLD as in RUN (R158). -/
structure RangeInv (s : State) : Prop where
  settleMs : 1 ≤ s.cm.settleMs ∧ s.cm.settleMs ≤ 250
  powerWaitMs : 1 ≤ s.cm.powerWaitMs ∧ s.cm.powerWaitMs ≤ 2000
  passRetryMs : 1 ≤ s.cm.passRetryMs ∧ s.cm.passRetryMs ≤ 1000
  rollMs : 10 ≤ s.roll.rollMs ∧ s.roll.rollMs ≤ 10000
  strikeLimit : 1 ≤ s.roll.strikeLimit ∧ s.roll.strikeLimit ≤ 15
  keepRounds : 1 ≤ s.roll.keepRounds ∧ s.roll.keepRounds ≤ 255
  sweepRounds : s.walker.sweepRounds ≤ 255
  passAttempts : 1 ≤ s.walker.passAttempts ∧ s.walker.passAttempts ≤ 8
  callRetries : s.callRetries ≤ 3
  waitMs : 1 ≤ s.req.waitMs ∧ s.req.waitMs ≤ 60000

end Sys2Proof.Machine
end

