-- ==== Sys2Proof/Certificates/Slice0/Obligations.lean ====
section
/-! DEFINITION. The statements about the model. Each says in its docstring which rules it formalises. In every
statement a next state is written out as the record it is, so that whatever is not named is unchanged. Notices
given in one event are compared up to their order, which the manual leaves open (log 23). -/

open Sys2Proof Sys2Proof.Machine

/-! ### The block as a whole -/

/-- A step runs the command at the front of the queue on the rest of the queue; on an empty queue the block idles, which
is the model's choice (log 1). -/
def Obligations.StepRunsFrontCommand : Prop :=
  (∀ (c : Instr) (rest : List Instr) (s : State),
    step { s with pending := c :: rest } = exec c { s with pending := rest }) ∧
  (∀ s : State, s.pending = [] → step s = .next s)

/-- Every command completes in every state, and no command touches the queue. That it does so also where the manual says
that an event does not arise is the model's choice (log 8), and so is the queue that HARD_RESET keeps (log 21). -/
def Obligations.EveryCommandCompletes : Prop :=
  ∀ (c : Instr) (s : State), ∃ t, exec c s = .next t ∧ t.pending = s.pending

/-- HARD_RESET leaves every block as R157 and the rules it gathers say, every field written out, with the contacts as
sensed at the release: ATTN is high and every word of the request slots reads 0. The model's choices in it: the values of
`feed.discard`, `line.serving`, `walker.foundLen` and `dir.serving`, for which the rules name none (log 27), the queue that
stays, and that no notice given before waits any longer (log 21). -/
def Obligations.HardResetRestoresDefaults : Prop :=
  ∀ (f l : Bool) (s t : State),
    t = {
      cm := {
        state := .dormant, first := f, last := l, shownFirst := false, shownLast := false
        partialMate := false, cause := .none, settle := none, powerWait := none, passRetry := none
        settleMs := 20, powerWaitMs := 150, passRetryMs := 20 }
      feed := {
        logicOn := false, driveOn := false, pedLogic := 0, pedDrive := 0, pedHigh := false
        live := ⟨0, 0, 0, 0, 0⟩, run := 0, latch := false
        trip := ⟨.none, ⟨false, false, false⟩, ⟨0, 0, 0, 0, 0⟩, 0⟩
        limits := ⟨2000, 3000, 4500, 5, 20⟩, sampling := false, capture := none, discard := false }
      line := {
        active := false, serving := false, clearOwed := false, releases := [], pointer := .requestUnit
        heldRunning := false, heldCount := 0, rate := .k1000, flight := .free }
      walker := {
        state := .idle, stack := [], candidates := [], foundLen := 0, claim := none, seeking := none
        passNumber := 0, counts := ⟨0, 0, 0, 0, 0, 0, 0, 0⟩, attempts := 0, owed := false, sweepCount := 0
        record := ⟨0, .none, ⟨0, 0, 0, 0, 0, 0, 0, 0⟩⟩, passAttempts := 3, sweepRounds := 10 }
      dir := {
        entries := Vector.replicate 62 ⟨0, .vacant, false, false, false, false, 0, 0, 0, 0, 0, 0, 0⟩
        offer := none, ackMask := ⟨false, false, true, false⟩, serving := false }
      roll := {
        timer := none, round := 0, inProgress := false, due := [], owed := false, hand := none
        rollMs := 100, strikeLimit := 3, keepRounds := 50 }
      req := {
        slots := Vector.replicate 8 {
          ask := 0, ticket := 0, phase := .free, result := .ok, kind := 0, name := 0, argA := 0, count := 0
          data := Vector.replicate 16 0, latched := none, wait := none }
        postOrder := [], hand := none, waitMs := 500 }
      port := {
        params := ⟨2, 20, 150, 20, 100, 3, 50, 10, 3, 1, 500, 4, 2000, 3000, 4500, 5, 20⟩
        classMap := Vector.replicate 64 ⟨1, 62, 0⟩, recGen := 0, seen := Vector.replicate 62 0
        run := false, alert := 0, alertMask := 0 }
      callRetries := 1, given := [], pending := s.pending } →
    exec (.hardReset f l) s = .next t ∧ t.attnLow = false ∧
    (∀ addr : BitVec 11, 0x400 ≤ addr.toNat → addr.toNat < 0x500 → t.readWord addr = 0)

/-- The state right after a hard reset meets every invariant of Safety.lean, and no round is in progress without a due name
(R124). -/
def Obligations.ResetMeetsInvariants : Prop :=
  MonitorInv State.reset ∧ FeedInv State.reset ∧ GenInv State.reset ∧ LineInv State.reset ∧
  DirInv State.reset ∧ QuietInv State.reset ∧ LiveInv State.reset ∧ WalkerInv State.reset ∧
  RollInv State.reset ∧ BoardInv State.reset ∧ SettingsInv State.reset ∧ RangeInv State.reset ∧
  IdleInv State.reset ∧ (State.reset.roll.inProgress = true → State.reset.roll.due ≠ [])

/-! ### Coupling monitor (chapter 1) -/

/-- R5. An edge taken in OPEN. -/
def Obligations.EdgeInOpenStartsMaking : Prop :=
  ∀ (s : State) (x : Contact) (closed : Bool), MonitorInv s → s.cm.state = .opened →
    s.cm.level x ≠ closed →
    closed = true ∧
    ∃ g, g.Perm (s.given ++ [.sampleNotice, .feedsOffCommand]) ∧
      exec (.contactEdge x closed) s = .next { s with
        cm := { s.cm with
          state := .making, settle := some s.cm.settleMs
          first := decide (x = .first), shownFirst := decide (x = .first)
          last := decide (x = .last), shownLast := decide (x = .last) }
        port := { s.port with recGen := s.port.recGen + 2, alert := s.port.alert ||| 1#7 }
        given := g }

/-- R6. An edge taken in MAKING. -/
def Obligations.EdgeInMakingRestartsSettle : Prop :=
  ∀ (s : State) (closed : Bool), MonitorInv s → s.cm.state = .making →
    (s.cm.first ≠ closed → exec (.contactEdge .first closed) s = .next { s with
      cm := { s.cm with
        first := closed, shownFirst := closed, settle := some s.cm.settleMs, partialMate := false }
      port := { s.port with recGen := s.port.recGen + 2, alert := s.port.alert ||| 1#7 } }) ∧
    (s.cm.last ≠ closed → exec (.contactEdge .last closed) s = .next { s with
      cm := { s.cm with
        last := closed, shownLast := closed, settle := some s.cm.settleMs, partialMate := false }
      port := { s.port with recGen := s.port.recGen + 2, alert := s.port.alert ||| 1#7 } })

/-- R12, R13. An edge taken in POWERING, DISCOVERING or SERVING is an opening edge and a decoupling: the
coupling-lost notice goes to the six blocks, the line-inactive notice with it when the line was active. -/
def Obligations.EdgeLosesCoupling : Prop :=
  ∀ (s : State) (x : Contact) (closed : Bool), MonitorInv s → s.cm.state.coupled = true →
    s.cm.level x ≠ closed →
    closed = false ∧
    ∃ g, g.Perm (s.given ++ (if s.cm.state = .powering then [] else [Instr.lineInactiveNotice]) ++
        [Instr.feedCouplingLost .decoupled, Instr.lineCouplingLost .decoupled, Instr.walkerCouplingLost .decoupled,
          Instr.directoryCouplingLost .decoupled, Instr.rollCouplingLost .decoupled,
          Instr.requestCouplingLost .decoupled]) ∧
      exec (.contactEdge x closed) s = .next { s with
        cm := { s.cm with
          state := .making, settle := some s.cm.settleMs, powerWait := none, passRetry := none
          first := decide (x = .last), shownFirst := decide (x = .last)
          last := decide (x = .first), shownLast := decide (x = .first) }
        port := { s.port with recGen := s.port.recGen + 2, alert := s.port.alert ||| 1#7 }
        given := g }

/-- R1, R16. In DORMANT an edge moves the internal level alone; in FAULTED it is recorded and nothing else
happens. A level already sensed is no edge (the model's choice: log 10). -/
def Obligations.EdgeInDormantAndFaulted : Prop :=
  ∀ (s : State) (closed : Bool), MonitorInv s →
    (s.cm.state = .dormant → exec (.contactEdge .first closed) s = .next { s with
      cm := { s.cm with first := closed } }) ∧
    (s.cm.state = .dormant → exec (.contactEdge .last closed) s = .next { s with
      cm := { s.cm with last := closed } }) ∧
    (s.cm.state = .faulted → s.cm.first ≠ closed → exec (.contactEdge .first closed) s = .next { s with
      cm := { s.cm with first := closed, shownFirst := closed }
      port := { s.port with recGen := s.port.recGen + 2, alert := s.port.alert ||| 1#7 } }) ∧
    (s.cm.state = .faulted → s.cm.last ≠ closed → exec (.contactEdge .last closed) s = .next { s with
      cm := { s.cm with last := closed, shownLast := closed }
      port := { s.port with recGen := s.port.recGen + 2, alert := s.port.alert ||| 1#7 } }) ∧
    (∀ x : Contact, s.cm.level x = closed → exec (.contactEdge x closed) s = .next s)

/-- R7. The three outcomes of a settle expiry. -/
def Obligations.SettleExpiryOutcomes : Prop :=
  ∀ s : State, MonitorInv s → s.cm.settle ≠ none →
    (s.cm.first = true → s.cm.last = true → exec .settleExpiry s = .next { s with
      cm := { s.cm with state := .powering, settle := none }
      port := { s.port with recGen := s.port.recGen + 2, alert := s.port.alert ||| 1#7 }
      given := s.given ++ [.captureNotice] }) ∧
    (s.cm.first = false → s.cm.last = false → ∃ g, g.Perm (s.given ++ [.stopNotice, .feedsOffCommand]) ∧
      exec .settleExpiry s = .next { s with
        cm := { s.cm with state := .opened, settle := none }
        port := { s.port with recGen := s.port.recGen + 2, alert := s.port.alert ||| 1#7 }
        given := g }) ∧
    (s.cm.first ≠ s.cm.last → exec .settleExpiry s = .next { s with
      cm := { s.cm with settle := none, partialMate := true }
      port := { s.port with recGen := s.port.recGen + 2, alert := s.port.alert ||| 1#7 } })

/-- R8 step 4 and R9. The LOGIC-on report starts the power-wait timer in POWERING and no timer elsewhere; the
expiry enters DISCOVERING and gives the three notices. -/
def Obligations.PoweringReachesDiscovering : Prop :=
  (∀ s : State, s.cm.state = .powering → exec .logicOnReport s = .next { s with
    cm := { s.cm with powerWait := some s.cm.powerWaitMs }
    given := s.given.erase .logicOnReport }) ∧
  (∀ s : State, s.cm.state ≠ .powering → exec .logicOnReport s = .next { s with
    given := s.given.erase .logicOnReport }) ∧
  (∀ s : State, s.cm.state = .powering → s.cm.powerWait ≠ none →
    ∃ g, g.Perm (s.given ++ [.lineActiveNotice, .firstPassNotice, .requestDiscoveringNotice]) ∧
      exec .powerWaitExpiry s = .next { s with
        cm := { s.cm with state := .discovering, powerWait := none }
        port := { s.port with recGen := s.port.recGen + 2, alert := s.port.alert ||| 1#7 }
        given := g })

/-- R10, R11. A pass-end report moves DISCOVERING to SERVING whatever the result, starts the pass-retry timer when a
follow-up is wanted, and is ignored outside DISCOVERING and SERVING. A pass-start report stops the timer in DISCOVERING
and SERVING and is ignored elsewhere; the timer's expiry in SERVING gives the retry-due notice. From the entry to SERVING
the directory unit takes roll reports (R90; up to its own coupling-lost notice: log 41). -/
def Obligations.PassEndEntersServing : Prop :=
  (∀ (s : State) (r : PassResult) (fu : Bool),
    (s.cm.state = .discovering →
      ∃ g, g.Perm (s.given.erase (.passEndReport r fu) ++
          [.rollServingNotice, .lineServingNotice, .requestServingNotice]) ∧
        exec (.passEndReport r fu) s = .next { s with
          cm := { s.cm with
            state := .serving, passRetry := if fu then some s.cm.passRetryMs else s.cm.passRetry }
          dir := { s.dir with serving := true }
          port := { s.port with recGen := s.port.recGen + 2, alert := s.port.alert ||| 1#7 }
          given := g }) ∧
    (s.cm.state = .serving → exec (.passEndReport r fu) s = .next { s with
      cm := { s.cm with passRetry := if fu then some s.cm.passRetryMs else s.cm.passRetry }
      given := s.given.erase (.passEndReport r fu) }) ∧
    (s.cm.state ≠ .discovering → s.cm.state ≠ .serving → exec (.passEndReport r fu) s = .next { s with
      given := s.given.erase (.passEndReport r fu) })) ∧
  ((∀ s : State, s.cm.state = .discovering ∨ s.cm.state = .serving →
    exec .passStartReport s = .next { s with
      cm := { s.cm with passRetry := none }, given := s.given.erase .passStartReport }) ∧
  (∀ s : State, s.cm.state ≠ .discovering → s.cm.state ≠ .serving →
    exec .passStartReport s = .next { s with given := s.given.erase .passStartReport }) ∧
  (∀ s : State, s.cm.state = .serving → s.cm.passRetry ≠ none →
    exec .passRetryExpiry s = .next { s with
      cm := { s.cm with passRetry := none }, given := s.given ++ [.retryDueNotice] }))

/-- R12, R14 to R16. A stage-B notice faults a coupling that is POWERING, DISCOVERING or SERVING with cause POWER,
a line-held notice one that is DISCOVERING or SERVING with cause LINE_HELD; elsewhere both change nothing. -/
def Obligations.FaultEntry : Prop :=
  ∀ s : State, MonitorInv s →
    (s.cm.state.coupled = true →
      ∃ g, g.Perm (s.given.erase .stageBNotice ++ [Instr.sampleNotice] ++
          (if s.cm.state = .powering then [] else [Instr.lineInactiveNotice]) ++
          [Instr.feedCouplingLost .faulted, Instr.lineCouplingLost .faulted, Instr.walkerCouplingLost .faulted,
            Instr.directoryCouplingLost .faulted, Instr.rollCouplingLost .faulted, Instr.requestCouplingLost .faulted]) ∧
        exec .stageBNotice s = .next { s with
          cm := { s.cm with state := .faulted, cause := .power, powerWait := none, passRetry := none }
          port := { s.port with recGen := s.port.recGen + 2, alert := s.port.alert ||| 1#7 }
          given := g }) ∧
    (s.cm.state.coupled = false → exec .stageBNotice s = .next { s with
      given := s.given.erase .stageBNotice }) ∧
    (s.cm.state.lineOn = true →
      ∃ g, g.Perm (s.given.erase .lineHeldNotice ++ [Instr.sampleNotice, .lineInactiveNotice,
            Instr.feedCouplingLost .faulted, Instr.lineCouplingLost .faulted, Instr.walkerCouplingLost .faulted,
            Instr.directoryCouplingLost .faulted, Instr.rollCouplingLost .faulted, Instr.requestCouplingLost .faulted]) ∧
        exec .lineHeldNotice s = .next { s with
          cm := { s.cm with state := .faulted, cause := .lineHeld, powerWait := none, passRetry := none }
          port := { s.port with recGen := s.port.recGen + 2, alert := s.port.alert ||| 1#7 }
          given := g }) ∧
    (s.cm.state.lineOn = false → exec .lineHeldNotice s = .next { s with
      given := s.given.erase .lineHeldNotice })

/-! ### Feed supervisor (chapter 2) -/

/-- R24, R27 to R31. A sample that is compared: its correction, the limits it meets, the run counter, and the trip
of stage B, the trip of stage A, or neither. -/
def Obligations.ComparedSample : Prop :=
  ∀ (s : State) (rl rd : BitVec 12), FeedInv s → s.feed.sampling = true → s.feed.capture = none →
    s.feed.discard = false →
    ∀ cl cd sum run : Nat, ∀ hitL hitD hitS : Bool,
    cl = rl.toNat - s.feed.pedLogic → cd = rd.toNat - s.feed.pedDrive →
    sum = (if s.feed.logicOn then cl else 0) + (if s.feed.driveOn then cd else 0) →
    hitL = (s.feed.logicOn && decide (s.feed.limits.logic ≤ cl)) →
    hitD = (s.feed.driveOn && decide (s.feed.limits.drive ≤ cd)) →
    hitS = decide (s.feed.limits.sum ≤ sum) →
    run = (if hitL = true ∨ hitD = true ∨ hitS = true then min 255 (s.feed.run + 1) else 0) →
    (s.feed.limits.tripB ≤ run → exec (.sampleCompletion rl rd) s = .next { s with
      feed := { s.feed with
        logicOn := false, driveOn := false, latch := true, run := run
        live := ⟨rl.toNat, rd.toNat, cl, cd, cl + cd⟩
        trip := ⟨.b, ⟨hitL, hitD, hitS⟩, ⟨rl.toNat, rd.toNat, cl, cd, sum⟩, run⟩ }
      port := { s.port with recGen := s.port.recGen + 2, alert := s.port.alert ||| 16#7 }
      given := s.given ++ [.stageBNotice] }) ∧
    (run < s.feed.limits.tripB → s.feed.limits.tripA ≤ run → s.feed.latch = false →
      exec (.sampleCompletion rl rd) s = .next { s with
        feed := { s.feed with
          driveOn := false, latch := true, run := run
          live := ⟨rl.toNat, rd.toNat, cl, cd, cl + cd⟩
          trip := ⟨.a, ⟨hitL, hitD, hitS⟩, ⟨rl.toNat, rd.toNat, cl, cd, sum⟩, run⟩ }
        port := { s.port with recGen := s.port.recGen + 2, alert := s.port.alert ||| 16#7 } }) ∧
    (run < s.feed.limits.tripB → (run < s.feed.limits.tripA ∨ s.feed.latch = true) →
      exec (.sampleCompletion rl rd) s = .next { s with
        feed := { s.feed with
          run := run
          live := if s.feed.latch then s.feed.live else ⟨rl.toNat, rd.toNat, cl, cd, cl + cd⟩ } })

/-- R25. Eight capture samples give both pedestals, PEDESTAL_HIGH and LOGIC on in one stable change, and the
LOGIC-on report; the sample after them is the discarded one. -/
def Obligations.PedestalCapture : Prop :=
  ∀ (s : State) (xs : List (BitVec 12 × BitVec 12)) (l d : Nat), xs.length = 8 →
    s.feed.sampling = true → s.feed.capture = some ⟨0, 0, 0⟩ → s.feed.logicOn = false →
    l = ((xs.map fun x => x.1.toNat).sum + 4) / 8 → d = ((xs.map fun x => x.2.toNat).sum + 4) / 8 →
    Host.Core.run Sys2Proof.core 8
        { s with pending := xs.map (fun x => Instr.sampleCompletion x.1 x.2) ++ s.pending } =
      .next { s with
        feed := { s.feed with
          pedLogic := if 255 < l then 255 else l
          pedDrive := if 255 < d then 255 else d
          pedHigh := decide (255 < l ∨ 255 < d)
          logicOn := true, capture := none, discard := true }
        port := { s.port with recGen := s.port.recGen + 2, alert := s.port.alert ||| 1#7 }
        given := s.given ++ [.logicOnReport] }

/-- R20 to R26. The notices to sample, to stop and, in POWERING, to capture (taken late, after POWERING, a capture notice is
only taken: the model's choice, log 45); the sample that is discarded after a switch-on, and one that
cannot complete because sampling is stopped (the model's reading of R23: log 8); the feeds-off command and the
coupling-lost notice, which switch both feeds off and abandon a capture, with one stable change of the record where a
feed or the latch changed and none otherwise. -/
def Obligations.FeedNotices : Prop :=
  (∀ s : State,
    exec .sampleNotice s = .next { s with
      feed := { s.feed with sampling := true }, given := s.given.erase .sampleNotice } ∧
    exec .stopNotice s = .next { s with
      feed := { s.feed with sampling := false, capture := none }, given := s.given.erase .stopNotice } ∧
    (s.cm.state = .powering → exec .captureNotice s = .next { s with
      feed := { s.feed with capture := some ⟨0, 0, 0⟩ }, given := s.given.erase .captureNotice }) ∧
    (s.cm.state ≠ .powering → exec .captureNotice s = .next { s with
      given := s.given.erase .captureNotice })) ∧
  (∀ (s : State) (rl rd : BitVec 12),
    (s.feed.sampling = true → s.feed.capture = none → s.feed.discard = true →
      exec (.sampleCompletion rl rd) s = .next { s with feed := { s.feed with discard := false } }) ∧
    (s.feed.sampling = false → exec (.sampleCompletion rl rd) s = .next s)) ∧
  (∀ s : State,
    (∃ p, exec .feedsOffCommand s = .next { s with
        feed := { s.feed with logicOn := false, driveOn := false, capture := none }
        port := p, given := s.given.erase .feedsOffCommand } ∧
      (s.feed.logicOn = false → s.feed.driveOn = false → p = s.port) ∧
      (s.feed.logicOn = true ∨ s.feed.driveOn = true →
        p = { s.port with recGen := s.port.recGen + 2, alert := s.port.alert ||| 1#7 })) ∧
    (∀ r : LossReason, ∃ p, exec (.feedCouplingLost r) s = .next { s with
        feed := { s.feed with
          logicOn := false, driveOn := false, capture := none, run := 0
          latch := decide (r ≠ .decoupled) && s.feed.latch }
        port := p, given := s.given.erase (.feedCouplingLost r) } ∧
      (s.feed.logicOn = false → s.feed.driveOn = false → (s.feed.latch = false ∨ r ≠ .decoupled) →
        p = s.port) ∧
      (s.feed.logicOn = true ∨ s.feed.driveOn = true ∨ (s.feed.latch = true ∧ r = .decoupled) →
        p = { s.port with recGen := s.port.recGen + 2, alert := s.port.alert ||| 1#7 })))

/-! ### Line unit: activity and grants (chapter 3) -/

/-- R37, R45, R46, R50. The line-active notice at entry to DISCOVERING starts the line-held count, points the rotation at
the request unit and owes a line clear, which the same event grants where no group is in flight (the model's reading of
when the line unit sets the flag: log 35). Where the coupling has been lost before the line unit takes the notice, it is
only taken and the line stays as it is (the model's choice: log 45). -/
def Obligations.LineActiveGrantsClear : Prop :=
  ∀ s : State, ∀ told : Bool → Flight → State,
    (∀ o f, told o f = { s with
      line := { s.line with
        active := true, serving := false, clearOwed := o, heldRunning := true, heldCount := 0
        pointer := .requestUnit, flight := f }
      given := s.given.erase .lineActiveNotice }) →
    (s.cm.state = .discovering ∨ s.cm.state = .serving →
      (s.line.flight = .free → exec .lineActiveNotice s = .next (told false .clearLow)) ∧
      (s.line.flight ≠ .free → exec .lineActiveNotice s = .next (told true s.line.flight))) ∧
    (s.cm.state ≠ .discovering → s.cm.state ≠ .serving →
      exec .lineActiveNotice s = .next { s with given := s.given.erase .lineActiveNotice })

/-- R53, R54. The line-inactive notice and the coupling-lost notice abandon the group in flight, tell its claimant,
clear the line-clear owed flag and stop the line-held count at 0; the release list, the pointer and the rate stay.
Of the two notices the second finds nothing left to do. A claimant told that its group was abandoned forgets the call in
hand (R116, R129, R156); the roll caller's name is out of the due set, and its round stays in progress until the
coupling-lost notice ends it, also where no name is left due (read from R124 and R129: log 40). A notice taken late empties
what its claimant then has in hand (the model's choice: logs 40 and 49).
R47. Bit time by bit time the line-held count adds on a released low line, pauses while the part drives low, as it does
through the low part of a clear and in low bits of its calls and nowhere else, and resets on a released high line; at 64
it stops and gives the line-held notice. Which bit times pass between two commands is for LINE_HELD to say (the model's
choice: log 7), and a count that does not run takes none (log 8). -/
def Obligations.LineStandsDown : Prop :=
  (∀ (s : State) (c : Instr), c = .lineInactiveNotice ∨ (∃ r, c = .lineCouplingLost r) →
    ∀ down : List Instr → State,
    (∀ told, down told = { s with
      line := { s.line with
        active := false, serving := false, clearOwed := false, heldRunning := false, heldCount := 0
        flight := .free }
      given := s.given.erase c ++ told }) →
    (∀ by_ k, s.line.flight = .sending by_ k ∨ s.line.flight = .listening by_ k ∨
        s.line.flight = .gap by_ k → exec c s = .next (down [.groupAbandoned by_])) ∧
    (∀ heard, s.line.flight = .windows heard → exec c s = .next (down [.groupAbandoned .walker])) ∧
    (s.line.flight = .free ∨ s.line.flight = .clearLow ∨ s.line.flight = .clearIdle ∨
        (∃ n, s.line.flight = .releasing n) → exec c s = .next (down []))) ∧
  (∀ (s : State) (bits : List LineBit),
    (∃ (k : Nat) (run : Bool) (g : List Instr), exec (.lineHeld bits) s = .next { s with
        line := { s.line with heldCount := k, heldRunning := run }, given := g } ∧
      ((run = s.line.heldRunning ∧ g = s.given) ∨
        (run = false ∧ s.line.heldRunning = true ∧ g = s.given ++ [.lineHeldNotice]))) ∧
    exec (.lineHeld []) s = .next s ∧
    (s.line.heldRunning = false → exec (.lineHeld bits) s = .next s) ∧
    (s.line.heldRunning = true → s.line.heldCount < 64 →
      (s.line.flight = .clearLow → exec (.lineHeld bits) s = .next s) ∧
      (s.line.flight ≠ .clearLow →
        ((∃ by_ k, s.line.flight = .sending by_ k) ∨ (∃ n, s.line.flight = .releasing n) →
          exec (.lineHeld (.driven :: bits)) s = exec (.lineHeld bits) s) ∧
        ((∀ by_ k, s.line.flight ≠ .sending by_ k) → (∀ n, s.line.flight ≠ .releasing n) →
          exec (.lineHeld (.driven :: bits)) s = exec (.lineHeld (.low :: bits)) s) ∧
        exec (.lineHeld (.high :: bits)) s = exec (.lineHeld bits) { s with
          line := { s.line with heldCount := 0 } } ∧
        (s.line.heldCount < 63 → exec (.lineHeld (.low :: bits)) s = exec (.lineHeld bits) { s with
          line := { s.line with heldCount := s.line.heldCount + 1 } }) ∧
        (s.line.heldCount = 63 → exec (.lineHeld (.low :: bits)) s = .next { s with
          line := { s.line with heldRunning := false, heldCount := 64 }
          given := s.given ++ [.lineHeldNotice] })))) ∧
  (∀ s : State,
    exec (.groupAbandoned .walker) s = .next { s with
      walker := { s.walker with claim := none, seeking := none }
      given := s.given.erase (.groupAbandoned .walker) } ∧
    (s.roll.hand = none → exec (.groupAbandoned .rollCaller) s = .next { s with
      given := s.given.erase (.groupAbandoned .rollCaller) }) ∧
    (∀ h, s.roll.hand = some h → exec (.groupAbandoned .rollCaller) s = .next { s with
      roll := { s.roll with hand := none, due := s.roll.due.filter (fun m => m ≠ h.name) }
      given := s.given.erase (.groupAbandoned .rollCaller) }) ∧
    exec (.groupAbandoned .requestUnit) s = .next { s with
      req := { s.req with hand := none }, given := s.given.erase (.groupAbandoned .requestUnit) })

/-- R51. The order of a grant: an owed line clear, the head of the release list, then the first claimant with work in
rotation order from the one after the pointer; before SERVING the rotation considers the walker alone. -/
def Obligations.GrantOrder : Prop :=
  ∀ (s : State) (place : Claimant → Nat) (works : Claimant → Prop),
    place .walker = 0 → place .rollCaller = 1 → place .requestUnit = 2 →
    (works .walker ↔ s.walker.state = .sweepDue ∨
      (s.walker.state = .walking ∧ (s.walker.candidates ≠ [] ∨ s.walker.stack ≠ []))) →
    (works .rollCaller ↔ s.line.serving = true ∧ s.roll.due ≠ []) →
    (works .requestUnit ↔ s.line.serving = true ∧ s.req.postOrder ≠ []) →
    (s.line.clearOwed = true → s.nextGrant = some .lineClear) ∧
    (s.line.clearOwed = false → ∀ n l, s.line.releases = n :: l → s.nextGrant = some (.release n)) ∧
    (s.line.clearOwed = false → s.line.releases = [] →
      (∀ c, s.nextGrant = some (.rotation c) ↔ works c ∧ ∀ d, works d →
        (place c + 2 - place s.line.pointer) % 3 ≤ (place d + 2 - place s.line.pointer) % 3) ∧
      ((∀ c, ¬ works c) → s.nextGrant = none))

/-- R50, R52. A grant decision on an active line goes on until a call group is in flight or nothing has a claim: no
claim is left waiting on a free line, and after each grant, a returned one too, the decision is made again in the same
event (the bound of log 30 is never met). On an inactive line, outside DISCOVERING and SERVING (log 42), and with a group
in flight, nothing is granted. -/
def Obligations.GrantDecisionIsComplete : Prop :=
  ∀ s : State,
    (s.line.active = true → s.cm.state = .discovering ∨ s.cm.state = .serving →
      (s.decideGrant.line.flight = .free → s.decideGrant.nextGrant = none) ∧
      (∀ g, s.line.flight = .free → s.nextGrant = some g → s.decideGrant = (s.grant g).decideGrant)) ∧
    (s.line.active = false ∨ (s.cm.state ≠ .discovering ∧ s.cm.state ≠ .serving) ∨ s.line.flight ≠ .free →
      s.decideGrant = s)

/-- R46, R49, R51, R52, R101, R115, R125, R148, R152, R153. What a grant that finds a call to make puts in flight: a line
clear, a RELEASE to the head of the list, the walker's seek of its top prefix, its sweep, the roll of the lowest due name,
and the READ, the WRITE or the MOVE's RELEASE of the request at the head of the post-order list, whose slot goes ON_LINE.
A roll grant that finds no name fit to call ends the round, and a request that the entry check refuses at its grant ends
with that check's result, a MOVE to a busy target with NAME_TAKEN (the model's choice: log 37); both grants are returned, and
GrantDecisionIsComplete says what follows. -/
def Obligations.GrantEffects : Prop :=
  ∀ s : State, s.line.active = true → s.cm.state = .discovering ∨ s.cm.state = .serving →
    s.line.flight = .free →
    (s.nextGrant = some .lineClear → s.decideGrant = { s with
      line := { s.line with clearOwed := false, flight := .clearLow } }) ∧
    (∀ n, s.nextGrant = some (.release n) → s.decideGrant = { s with
      line := { s.line with flight := .releasing n } }) ∧
    (∀ p rest, s.nextGrant = some (.rotation .walker) → s.walker.state = .walking →
      s.walker.candidates = [] → s.walker.stack = p :: rest → s.decideGrant = { s with
        line := { s.line with pointer := .walker, flight := .sending .walker (.seek p) }
        walker := { s.walker with
          stack := rest, seeking := some p
          counts := { s.walker.counts with seeks := min 255 (s.walker.counts.seeks + 1) } } }) ∧
    (s.nextGrant = some (.rotation .walker) → s.walker.state = .sweepDue → s.decideGrant = { s with
        line := { s.line with pointer := .walker, flight := .sending .walker (.seek []) }
        walker := { s.walker with state := .sweeping, sweepCount := 0, seeking := some [] } }) ∧
    (∀ n rest, s.nextGrant = some (.rotation .rollCaller) →
      s.roll.due.filter (fun m => decide ((s.entry m).state = .bound ∨ (s.entry m).state = .held ∨
        (s.entry m).state = .stale)) = n :: rest → s.decideGrant = { s with
        line := { s.line with pointer := .rollCaller, flight := .sending .rollCaller (.roll n) }
        roll := { s.roll with
          due := n :: rest, hand := some ⟨n, (s.entry n).state, (s.entry n).ident, 1⟩ } }) ∧
    (s.nextGrant = some (.rotation .rollCaller) →
      (∀ n ∈ s.roll.due, (s.entry n).state ≠ .bound ∧ (s.entry n).state ≠ .held ∧
        (s.entry n).state ≠ .stale) →
      s.grant (.rotation .rollCaller) = State.endRound { s with
        line := { s.line with pointer := .rollCaller }, roll := { s.roll with due := [] } }) ∧
    (∀ (k : SlotNo) (rest : List SlotNo) (q : LineRequest) (c : Call) (n m : Name) (e : Entry) (free : Prop),
      s.nextGrant = some (.rotation .requestUnit) → s.req.postOrder = k :: rest →
      (s.slot k).latched = some q → e = s.entry n →
      (free ↔ (s.entry m).state = .vacant ∧ (s.entry m).owed = false) →
      (∃ a w, q = .read n a w ∧ c = .read n a w) ∨ (∃ a ws, q = .write n a ws ∧ c = .write n a ws) ∨
        (q = .move n m ∧ c = .release n) →
      (e.state = .bound → (q = .move n m → free) → s.decideGrant = { s with
        line := { s.line with pointer := .requestUnit, flight := .sending .requestUnit c }
        req := { s.req with
          slots := s.req.slots.set k.val { s.slot k with phase := .onLine, result := .ok, wait := none } k.isLt
          postOrder := rest
          hand := some { slot := k, attempts := 1, garbled := false, ident := e.ident
                         claimSilent := false } } }) ∧
      (∀ r, (e.state = .held ∧ r = .notReady) ∨
          ((e.state = .offered ∨ e.state = .disputed) ∧ r = .nameBusy) ∨
          ((e.state = .vacant ∨ e.state = .stale ∨ e.state = .retiring) ∧ r = .noDevice) ∨
          (e.state = .bound ∧ q = .move n m ∧ ¬ free ∧ r = .nameTaken) →
        s.grant (.rotation .requestUnit) = { s with
          line := { s.line with pointer := .requestUnit }
          req := { s.req with
            slots := s.req.slots.set k.val { s.slot k with
              phase := .done, result := r, latched := none, wait := none } k.isLt
            postOrder := rest.filter (fun j => j ≠ k) }
          port := { s.port with alert := s.port.alert ||| 4#7 } }))

/-- R10, R51, R148, R165. From the notice of entry to SERVING the line unit grants waiting requests: the head of the
post-order list goes ON_LINE in the event of whichever of the two serving notices comes second. On an active line of a
coupling that is SERVING the line unit's notice lets all three claimants take part and is a grant decision, which grants
nothing with a group in flight or with no claim. On a line no longer active, and where the notice is late and the coupling
has left SERVING, it is only taken (the model's choice: log 45). The request unit's notice reports work where a request
waits, and is only taken where none does. The line unit goes by its own notice (the model's reading: log 13). -/
def Obligations.ServingNoticesEitherOrder : Prop :=
  (∀ (s : State) (k : SlotNo) (rest : List SlotNo) (n : Name) (a : Word) (c : Nat),
    s.line.active = true → s.cm.state = .discovering ∨ s.cm.state = .serving →
    s.line.flight = .free → s.line.clearOwed = false → s.line.releases = [] →
    s.walker.state = .idle → s.roll.due = [] → s.req.postOrder = k :: rest →
    (s.slot k).latched = some (.read n a c) → (s.entry n).state = .bound →
    ∀ served : List Instr → State,
    (∀ g, served g = { s with
      line := { s.line with
        serving := true, pointer := .requestUnit, flight := .sending .requestUnit (.read n a c) }
      req := { s.req with
        slots := s.req.slots.set k.val { s.slot k with phase := .onLine, result := .ok, wait := none } k.isLt
        postOrder := rest
        hand := some { slot := k, attempts := 1, garbled := false, ident := (s.entry n).ident
                       claimSilent := false } }
      given := g }) →
    (s.cm.state = .serving →
      exec .lineServingNotice s = .next (served (s.given.erase .lineServingNotice))) ∧
    (s.line.serving = true →
      exec .requestServingNotice s = .next (served (s.given.erase .requestServingNotice))) ∧
    (s.line.serving = false → exec .requestServingNotice s = .next { s with
      given := s.given.erase .requestServingNotice })) ∧
  (∀ s told asked : State,
    told = { s with
      line := { s.line with serving := true }, given := s.given.erase .lineServingNotice } →
    asked = { s with given := s.given.erase .requestServingNotice } →
    (s.line.active = true → s.cm.state = .serving →
      exec .lineServingNotice s = .next told.decideGrant ∧
      (s.line.flight ≠ .free ∨ told.nextGrant = none → exec .lineServingNotice s = .next told)) ∧
    (s.line.active = false ∨ s.cm.state ≠ .serving → exec .lineServingNotice s = .next { s with
      given := s.given.erase .lineServingNotice }) ∧
    (s.req.postOrder ≠ [] → exec .requestServingNotice s = .next asked.decideGrant) ∧
    (s.req.postOrder = [] ∨ s.line.active = false ∨ s.line.flight ≠ .free ∨ s.nextGrant = none →
      exec .requestServingNotice s = .next asked))

/-! ### Line unit: calls, gaps, windows, clears (chapters 3 and 4) -/

/-- R38, R41, R42, R48, R49, R68, R77. A call is sent: an ordinary call's answer is awaited, a seek's window timer starts,
with the receiver off until window 0 starts 12 bit times later, and a RELEASE of the release list leaves the list, with the
directory unit's release-sent notice taken in the same event (the model's reading: log 3), the entry resolved in one stable
change where it owed the release, and the next grant decided. A MOVE's RELEASE takes its name off the list too where the
coupling-lost notice has taken the MOVE from the request unit's hand; the group then ends (log 16). R131. A ROLL that the
roll caller has no longer in hand is not sent, and its group ends (the model's reading: log 46). -/
def Obligations.CallSentByKind : Prop :=
  ∀ s : State,
    (∀ by_ k, s.line.flight = .sending by_ k → k.answerLength ≠ 0 → by_ ≠ .rollCaller ∨ s.roll.hand ≠ none →
      exec .callSent s = .next { s with line := { s.line with flight := .listening by_ k } }) ∧
    (∀ k, s.line.flight = .sending .rollCaller k → s.roll.hand = none →
      exec .callSent s = .next (State.decideGrant { s with line := { s.line with flight := .free } })) ∧
    (∀ by_ p w, s.line.flight = .sending by_ (.seek p) → by_ ≠ .rollCaller ∨ s.roll.hand ≠ none →
      w = { s with line := { s.line with flight := .windows [] } } →
      exec .callSent s = .next w ∧ w.windowTimer = some 0 ∧
      ∀ time : Nat, (time < 12 → w.receiver time = .off) ∧ (12 ≤ time → w.receiver time = .waiting)) ∧
    (∀ (n : Name) (e u : Entry), s.line.flight = .releasing n → e = s.entry n →
      (e.state = .vacant → e.owed = true → u = { e with gen := e.gen + 2, owed := false }) →
      (e.state = .disputed → s.dir.ackMask.conflict = true →
        u = { e with gen := e.gen + 2, state := .retiring, owed := false }) →
      (e.state = .disputed → s.dir.ackMask.conflict = false → u = { gen := e.gen + 2, state := .vacant }) →
      (e.state ≠ .vacant ∨ e.owed = false → e.state ≠ .disputed → u = e) →
      exec .callSent s = .next (State.decideGrant { s with
        line := { s.line with releases := s.line.releases.filter (fun m => m ≠ n), flight := .free }
        dir := { s.dir with entries := s.dir.entries.set n.val u n.isLt }
        port := { s.port with alert := if u = e then s.port.alert else s.port.alert ||| 2#7 } })) ∧
    (∀ by_ m, s.line.flight = .sending by_ (.release m) → by_ ≠ .rollCaller ∨ s.roll.hand ≠ none →
      (∀ h a b, s.req.hand = some h → (s.slot h.slot).latched ≠ some (.move a b)) →
      exec .callSent s = .next (State.decideGrant { s with
        line := { s.line with releases := s.line.releases.filter (fun k => k ≠ m), flight := .free } }))

/-- R43, R44, R46, R70, R95. The next call of a group starts at the end of the call gap, also where the walker or the
request unit, but not yet the line unit, has taken the coupling-lost notice (the model's choice: log 46), while a ROLL that
the roll caller has no longer in hand is not sent and its group ends (R131; log 46); an end of a call, an answer or a
window taken in the gap changes nothing (the model's choice: log 8). The line clear's low
part ends; at its end the release list is empty, the three notices are given and a grant is decided. The directory unit
takes its own in the same event (log 3), and so does a WALKING walker, which R117 says has no call in flight then
(log 39): a pass that runs in SERVING is closed and a fresh one started before the grant, and a pass that runs while the
coupling is DISCOVERING goes on (the model's reading: log 14). Each of the first fifteen
windows is classified and kept; at the end of the sixteenth all sixteen classes, in window order, are handed to the
walker together. -/
def Obligations.LineTimers : Prop :=
  ((∀ (s : State) (by_ : Claimant) (k : Call), s.line.flight = .gap by_ k →
    (by_ ≠ .rollCaller ∨ s.roll.hand ≠ none →
      exec .callGapEnd s = .next { s with line := { s.line with flight := .sending by_ k } }) ∧
    (by_ = .rollCaller → s.roll.hand = none →
      exec .callGapEnd s = .next (State.decideGrant { s with line := { s.line with flight := .free } }))) ∧
  (∀ (s : State) (by_ : Claimant) (k : Call) (c : Instr), s.line.flight = .gap by_ k →
    c = .callSent ∨ (∃ e, c = .answerEnd e) ∨ (∃ e, c = .windowEnd e) → exec c s = .next s)) ∧
  ((∀ s : State, s.line.flight = .clearLow → exec .lineClearLowEnd s = .next { s with
    line := { s.line with flight := .clearIdle } }) ∧
  (∀ (s u : State) (cleared : Entry → Entry), s.line.flight = .clearIdle →
    (∀ e, (e.state = .bound ∨ e.state = .held → cleared e = { e with
          gen := e.gen + 2, state := .stale, strikes := 0, keep := s.roll.keepRounds }) ∧
      (e.state = .disputed → s.dir.ackMask.conflict = true →
        cleared e = { e with gen := e.gen + 2, state := .retiring, owed := false }) ∧
      (e.state = .disputed → s.dir.ackMask.conflict = false →
        cleared e = { gen := e.gen + 2, state := .vacant }) ∧
      (e.state = .vacant → e.owed = true → cleared e = { e with gen := e.gen + 2, owed := false }) ∧
      ((e.state = .vacant ∧ e.owed = false) ∨ e.state = .offered ∨ e.state = .stale ∨
        e.state = .retiring → cleared e = e)) →
    u = { s with
      line := { s.line with releases := [], flight := .free }
      dir := { s.dir with entries := Vector.ofFn fun n => cleared (s.entry n) }
      port := { s.port with alert :=
        if ∀ n : Name, cleared (s.entry n) = s.entry n then s.port.alert else s.port.alert ||| 2#7 } } →
    (s.walker.state ≠ .walking → ∃ g, g.Perm (s.given ++ [.walkerLineClearSent, .requestLineClearSent]) ∧
      exec .lineClearSent s = .next (State.decideGrant { u with given := g })) ∧
    (s.walker.state = .walking → s.cm.state = .discovering →
      exec .lineClearSent s = .next (State.decideGrant { u with
        given := s.given ++ [.requestLineClearSent] })) ∧
    (s.walker.state = .walking → s.cm.state ≠ .discovering →
      ∃ g, g.Perm (s.given ++ [.passEndReport .incomplete false, .passStartReport, .requestLineClearSent]) ∧
        exec .lineClearSent s = .next (State.decideGrant { u with
          walker := { s.walker with
            state := .walking, stack := [[]], candidates := [], claim := none, seeking := none
            record := ⟨s.walker.passNumber, .incomplete, s.walker.counts⟩
            passNumber := s.walker.passNumber + 1, counts := ⟨0, 0, 0, 0, 0, 0, 0, 0⟩, sweepCount := 0
            owed := false }
          port := { u.port with recGen := s.port.recGen + 2, alert := u.port.alert ||| 8#7 }
          given := g })))) ∧
  (∀ (s : State) (edges : List LineEdge) (heard : List Window), s.line.flight = .windows heard →
    (heard.length < 15 → exec (.windowEnd edges) s = .next { s with
      line := { s.line with flight := .windows (heard ++ [hearWindow edges]) } }) ∧
    (heard.length = 15 → exec (.windowEnd edges) s =
      .next ((State.handWindows (heard ++ [hearWindow edges])
        { s with line := { s.line with flight := .free } }).decideGrant)))

/-- R38, R40, R59 to R62, section 11.7. The frame of a call: its length, the marker on the first character alone, a check
that brings the sum of all its values to 255 modulo 256, and the values themselves: the target, the kind code and the
arguments, words and identities with the more significant byte first, a seek's prefix with 0 for the digits past its
length. -/
def Obligations.CallFrames : Prop :=
  ∀ c : Call,
    (c.frame.map fun x => x.value.toNat).sum % 256 = 255 ∧
    (∀ k (h : k < c.frame.length), (c.frame[k]).marker = decide (k = 0)) ∧
    (∀ p, c = .seek p → c.frame.length = 10) ∧
    (∀ i n, c = .claim i n → c.frame.length = 10 ∧ c.answerLength = 9) ∧
    (∀ n, c = .roll n → c.frame.length = 3 ∧ c.answerLength = 9) ∧
    (∀ n a k, c = .read n a k → c.frame.length = 6 ∧ c.answerLength = 2 * k + 1) ∧
    (∀ n a ws, c = .write n a ws → c.frame.length = 6 + 2 * ws.length ∧ c.answerLength = 2) ∧
    (∀ n, c = .release n → c.frame.length = 3 ∧ c.answerLength = 0) ∧
    (∀ (vals : List Nat) (word : Word → List Nat), vals = c.frame.dropLast.map (fun x => x.value.toNat) →
      (∀ w : Word, word w = [w.toNat / 256, w.toNat % 256]) →
      (∀ p, c = .seek p → p.length ≤ 11 → vals = [0, 1, p.length] ++ (List.range 6).map fun j =>
        16 * (p.getD (2 * j) 0).toNat + (p.getD (2 * j + 1) 0).toNat) ∧
      (∀ i n, c = .claim i n → vals = [0, 2] ++
        (List.range 6).map (fun j => i.toNat / 256 ^ (5 - j) % 256) ++ [n.val + 1]) ∧
      (∀ n, c = .roll n → vals = [n.val + 1, 3]) ∧
      (∀ n a k, c = .read n a k → k ≤ 255 → vals = [n.val + 1, 4] ++ word a ++ [k]) ∧
      (∀ n a ws, c = .write n a ws → ws.length ≤ 255 →
        vals = [n.val + 1, 5] ++ word a ++ [ws.length] ++ ws.flatMap word) ∧
      (∀ n, c = .release n → vals = [n.val + 1, 6]))

/-- R39 to R41, R57, R58. An answer that keeps the device-side contract is heard CLEAN with the device's values: its
first falling edge within 23 bit times of the call, each later one within 21.5 bit times of the stop-bit sample
before it. Carried to the line-held count by LINE_HELD, as all bit times are (the model's choice: log 7), the bit times of
such characters, of 10 low bits at most before each stop bit (R35), leave a running count at 0, with no notice where it
stood at 53 at most (R47). Whatever is heard after an ordinary call is SILENT where no character
was received, CLEAN for a full count whose check compares equal, without a framing error or a marker, and GARBLED
otherwise, with the values received before the check for every class but SILENT. Times are in hundredths of a bit time (the
model's choice: log 11). -/
def Obligations.CompliantAnswerHeardClean : Prop :=
  (∀ (d : Device) (words : List Word) (c : Call) (vals : List Byte) (start : Nat) (gaps : List Nat)
    (edges : List LineEdge),
    d.answer words c = some vals → (∀ p, c ≠ .seek p) →
    (∀ n a k, c = .read n a k → words.length = k) →
    start ≤ 2300 → gaps.length = vals.length → (∀ g ∈ gaps, g ≤ 2150) →
    edges = answerEdges start (vals.zip gaps) →
    hearAnswer c edges = .clean vals.dropLast) ∧
  (∀ (s : State) (by_ : Claimant) (c : Call) (sent : List (Byte × Nat)) (bits : List LineBit),
    s.line.flight = .listening by_ c → s.line.heldRunning = true → s.line.heldCount ≤ 53 → sent ≠ [] →
    bits = (sent.flatMap fun x =>
      (TxChar.levels ⟨x.1, false⟩).map (fun high => if high then LineBit.high else .low) ++
        List.replicate x.2 .high) →
    exec (.lineHeld bits) s = .next { s with line := { s.line with heldCount := 0 } }) ∧
  (∀ (c : Call) (edges : List LineEdge) (cs : List RxChar) (vals : List Byte) (good : Prop),
    cs = answerChars c edges → vals = (cs.take (c.answerLength - 1)).map RxChar.value →
    (good ↔ cs.length = c.answerLength ∧ (∀ x ∈ cs, x.framed = true ∧ x.marker = false) ∧
      (cs.map fun x => x.value.toNat).sum % 256 = 255) →
    cs.length ≤ c.answerLength ∧
    (cs = [] → hearAnswer c edges = .silent) ∧
    (cs ≠ [] → good → hearAnswer c edges = .clean vals) ∧
    (cs ≠ [] → ¬ good → hearAnswer c edges = .garbled vals))

/-- R42, R43, R57, R58, R102. A lone device that starts within the first 8 bit times of its window, its characters back to
back, is heard CLEAN with its identity and class, and the walker judges the window CLEAN. Whatever is heard in a window is
SILENT where no start bit was validated, CLEAN for exactly eight well framed characters without a marker whose check
compares equal and no frame still open at the end, and GARBLED otherwise: a CLEAN window carries the identity of its first
six values, the most significant first, and the class of its seventh. A start bit is validated half a bit time after its
falling edge, before the window's end, and a frame whose stop bit would fall at the end or later is open. Times are in
hundredths of a bit time (the model's choice: log 11). -/
def Obligations.CompliantSeekAnswerHeardClean : Prop :=
  (∀ (d : Device) (p : Prefix) (vals : List Byte) (start : Nat),
    d.answer [] (.seek p) = some vals → p.length ≤ 11 → d.ident ≠ 0 → d.ident ≠ BitVec.allOnes 48 →
    start ≤ 800 →
    hearWindow (answerEdges start (vals.map fun v => (v, 50))) = .clean d.ident d.cls ∧
    judgeWindow p (d.window p) (hearWindow (answerEdges start (vals.map fun v => (v, 50)))) =
      .clean d.ident d.cls) ∧
  (∀ (edges : List LineEdge) (cs : List RxChar) (unfinished : Bool) (good : Prop),
    receiveWindow 0 edges = (cs, unfinished) →
    (good ↔ cs.length = 8 ∧ unfinished = false ∧ (∀ x ∈ cs, x.framed = true ∧ x.marker = false) ∧
      (cs.map fun x => x.value.toNat).sum % 256 = 255) →
    (cs = [] → unfinished = false → hearWindow edges = .silent) ∧
    (∀ (i : Identity) (c : Byte), good →
      i.toNat = (cs.take 6).foldl (fun n x => 256 * n + x.value.toNat) 0 →
      cs[6]?.map RxChar.value = some c → hearWindow edges = .clean i c) ∧
    (cs ≠ [] ∨ unfinished = true → ¬ good → hearWindow edges = .garbled)) ∧
  (∀ edges : List LineEdge, (∀ e ∈ edges, e.low = false ∨ 9550 ≤ e.time) → hearWindow edges = .silent) ∧
  (∀ (e : LineEdge) (rest : List LineEdge), e.low = true → e.time < 9550 →
    hearWindow (e :: rest) ≠ .silent ∧ (8550 ≤ e.time → hearWindow (e :: rest) = .garbled))

/-! ### Answers at the claimants (chapters 4, 6, 7 and 9) -/

/-- R63, R64, R69, R107 to R109. The walker's claim group: an ACCEPT of the offered name with the candidate's identity is
a success, any other answer is followed by one verifying ROLL after the gap, and that ROLL's answer is the claim
result. The group's end reports the result to the directory unit (`takeOutcome`; the model takes the report in the
same event: log 3), counts it, takes the candidate off the list and decides the next grant. -/
def Obligations.WalkerClaimGroup : Prop :=
  ∀ (s : State) (x : ClaimContext) (rest : List Candidate) (edges : List LineEdge) (n : Name) (c : Call),
    s.walker.claim = some x → s.walker.candidates = x.cand :: rest →
    s.line.flight = .listening .walker c →
    ∀ ended : ClaimResult → Option Byte → State,
    (∀ r st, ended r st = State.takeOutcome x.name x.cand.ident r st
      { s with line := { s.line with flight := .free } }) →
    ∀ done : State → PassCounts → List Prefix → State,
    (∀ u c l, done u c l = State.decideGrant (State.endIfDone { u with
      walker := { u.walker with candidates := rest, claim := none, counts := c, stack := l } })) →
    ∀ good : PassCounts,
    (x.kind = .new → good = { s.walker.counts with found := min 255 (s.walker.counts.found + 1) }) →
    (x.kind = .ret → good = { s.walker.counts with returned := min 255 (s.walker.counts.returned + 1) }) →
    (x.kind = .reclaim → good = { s.walker.counts with reclaimed := min 255 (s.walker.counts.reclaimed + 1) }) →
    x.kind ≠ .move →
    (c = .claim x.cand.ident n →
      ((∃ vals, hearAnswer (.claim x.cand.ident n) edges = .clean vals ∧
          identityOfBytes (vals.take 6) = x.cand.ident ∧ vals.getD 7 0 = nameByte n) →
        exec (.answerEnd edges) s = .next (done (ended .success none) good s.walker.stack)) ∧
      ((∀ vals, hearAnswer (.claim x.cand.ident n) edges = .clean vals →
          identityOfBytes (vals.take 6) ≠ x.cand.ident ∨ vals.getD 7 0 ≠ nameByte n) →
        exec (.answerEnd edges) s = .next { s with
          line := { s.line with flight := .gap .walker (.roll n) } })) ∧
    (c = .roll n →
      (∀ vals, hearAnswer (.roll n) edges = .clean vals → identityOfBytes (vals.take 6) = x.cand.ident →
        exec (.answerEnd edges) s =
          .next (done (ended .success (some (vals.getD 7 0))) good s.walker.stack)) ∧
      (hearAnswer (.roll n) edges = .silent ∨ (∃ vals, hearAnswer (.roll n) edges = .garbled vals) →
        (x.len ≤ 10 → s.walker.stack.length < 24 → exec (.answerEnd edges) s =
          .next (done (ended .failure none) s.walker.counts
            (((identityDigits x.cand.ident).take x.len ++ [x.window]) :: s.walker.stack))) ∧
        (x.len ≤ 10 → s.walker.stack.length = 24 → exec (.answerEnd edges) s =
          .next (done (ended .failure none)
            { s.walker.counts with dropped := min 255 (s.walker.counts.dropped + 1) } s.walker.stack)) ∧
        (x.len = 11 → exec (.answerEnd edges) s =
          .next (done (ended .failure none)
            { s.walker.counts with
              phantom := min 255 (s.walker.counts.phantom + 1)
              unresolved := min 255 (s.walker.counts.unresolved + 1) } s.walker.stack))))

/-- R76, R87, R109, R112. A claim that ends in dispute: the entry becomes DISPUTED in one stable change and owes a release,
the offer record is emptied, the dispute notice reaches the walker and sets pass-owed, nothing is pushed and nothing
counted, the candidate leaves the list and the next grant is decided. The model takes the directory unit's report (log 3)
and the dispute notice (log 5) in this event. -/
def Obligations.WalkerClaimDispute : Prop :=
  ∀ (s : State) (x : ClaimContext) (c : Candidate) (rest : List Candidate) (edges : List LineEdge)
    (n : Name) (vals : List Byte) (k : OfferKind) (prior : Entry),
    s.walker.claim = some x → s.walker.candidates = c :: rest →
    s.walker.state = .walking ∨ s.walker.state = .awaitClear ∨ s.walker.state = .sweeping →
    s.dir.offer = some ⟨x.name, x.cand.ident, k, prior⟩ →
    (k ≠ .reclaim → (s.entry x.name).state = .offered) →
    (k = .reclaim → (s.entry x.name).state = .bound ∨ (s.entry x.name).state = .held) →
    s.line.flight = .listening .walker (.roll n) → hearAnswer (.roll n) edges = .clean vals →
    identityOfBytes (vals.take 6) ≠ x.cand.ident →
    exec (.answerEnd edges) s = .next (State.decideGrant (State.endIfDone { s with
      line := { s.line with flight := .free, releases := insertName x.name s.line.releases }
      dir := { s.dir with
        entries := s.dir.entries.set x.name.val { s.entry x.name with
          gen := (s.entry x.name).gen + 2, state := .disputed, conflict := true, owed := true
          strikes := 0, keep := 0 } x.name.isLt
        offer := none }
      walker := { s.walker with owed := true, candidates := rest, claim := none }
      port := { s.port with alert := s.port.alert ||| 2#7 } }))

/-- R69, R71, R125 to R127. The roll caller's call: a miss is repeated while attempts are left, and otherwise the name
leaves the due set and one report is made, by the entry's state and IDENT at the grant, its live fields and the
limits as they stand. The report acts as ROLL_REPORT does (the model takes it in the same event: log 3), and the
round ends when no name is left. -/
def Obligations.RollCallOutcome : Prop :=
  ∀ (s : State) (h : RollCall) (n : Name) (edges : List LineEdge) (a : Answer) (left : List Name),
    s.line.flight = .listening .rollCaller (.roll n) → s.roll.hand = some h →
    hearAnswer (.roll n) edges = a → left = s.roll.due.filter (fun m => m ≠ h.name) →
    ∀ told out : RollReport → State,
    (∀ rep, told rep = State.takeRollReport h.name rep { s with
      line := { s.line with flight := .free }
      roll := { s.roll with due := left, hand := none } }) →
    (left = [] → ∀ rep, out rep = (told rep).endRound) → (left ≠ [] → ∀ rep, out rep = told rep) →
    ∀ miss : RollReport,
    (h.state ≠ .stale → (s.entry h.name).strikes + 1 < s.roll.strikeLimit →
      miss = .strike ((s.entry h.name).strikes + 1)) →
    (h.state ≠ .stale → s.roll.strikeLimit ≤ (s.entry h.name).strikes + 1 → miss = .struckOut) →
    (h.state = .stale → 2 ≤ (s.entry h.name).keep → miss = .retentionStep ((s.entry h.name).keep - 1)) →
    (h.state = .stale → (s.entry h.name).keep ≤ 1 → miss = .retentionExpired) →
    (a = .silent ∨ (∃ vals, a = .garbled vals) →
      (h.attempts ≤ s.callRetries → exec (.answerEnd edges) s = .next { s with
        line := { s.line with flight := .gap .rollCaller (.roll n) }
        roll := { s.roll with hand := some { h with attempts := h.attempts + 1 } } }) ∧
      (s.callRetries < h.attempts → exec (.answerEnd edges) s = .next (out miss).decideGrant)) ∧
    (∀ vals, a = .clean vals →
      (identityOfBytes (vals.take 6) ≠ h.ident →
        exec (.answerEnd edges) s = .next (out .dispute).decideGrant) ∧
      (identityOfBytes (vals.take 6) = h.ident → h.state = .stale →
        exec (.answerEnd edges) s = .next (out (.revived (vals.getD 7 0) s.roll.round)).decideGrant) ∧
      (identityOfBytes (vals.take 6) = h.ident → h.state ≠ .stale →
        exec (.answerEnd edges) s = .next (out (.answered (vals.getD 7 0) s.roll.round)).decideGrant))

/-- R66, R67, R69, R71, R151, R152. A READ is repeated while attempts are left; CLEAN ends it OK with the words, no CLEAN
attempt ends it GARBLED where one was garbled and NO_ANSWER where all were silent. A WRITE has one attempt: OK for
an equal echo, NO_ANSWER, or GARBLED. The group ends in the same event and a grant is decided. -/
def Obligations.ReadAndWriteOutcomes : Prop :=
  ∀ (s : State) (h : RequestCall) (n : Name) (addr : Word) (edges : List LineEdge) (c : Call),
    s.req.hand = some h → s.line.flight = .listening .requestUnit c →
    ∀ ended : Result → List Word → State,
    (∀ r ws, ended r ws = State.decideGrant { s with
      line := { s.line with flight := .free }
      req := { s.req with
        slots := s.req.slots.set h.slot.val { s.slot h.slot with
          phase := .done, result := r, latched := none, wait := none
          data := Vector.ofFn fun k => ws.getD k.val (s.slot h.slot).data[k] } h.slot.isLt
        postOrder := s.req.postOrder.filter (fun j => j ≠ h.slot)
        hand := none }
      port := { s.port with alert := s.port.alert ||| 4#7 } }) →
    (∀ count, c = .read n addr count →
      (∀ vals, hearAnswer (.read n addr count) edges = .clean vals →
        exec (.answerEnd edges) s = .next (ended .ok ((wordsOfBytes vals).take count))) ∧
      (∀ g, (hearAnswer (.read n addr count) edges = .silent ∧ g = h.garbled) ∨
          ((∃ vals, hearAnswer (.read n addr count) edges = .garbled vals) ∧ g = true) →
        (h.attempts ≤ s.callRetries → exec (.answerEnd edges) s = .next { s with
          line := { s.line with flight := .gap .requestUnit (.read n addr count) }
          req := { s.req with hand := some { h with attempts := h.attempts + 1, garbled := g } } }) ∧
        (s.callRetries < h.attempts → g = false →
          exec (.answerEnd edges) s = .next (ended .noAnswer [])) ∧
        (s.callRetries < h.attempts → g = true →
          exec (.answerEnd edges) s = .next (ended .garbled [])))) ∧
    (∀ ws, c = .write n addr ws →
      (hearAnswer (.write n addr ws) edges = .clean [BitVec.ofNat 8 ws.length] →
        exec (.answerEnd edges) s = .next (ended .ok [])) ∧
      (hearAnswer (.write n addr ws) edges = .silent →
        exec (.answerEnd edges) s = .next (ended .noAnswer [])) ∧
      ((∃ vals, hearAnswer (.write n addr ws) edges = .garbled vals) ∨
          (∃ vals, hearAnswer (.write n addr ws) edges = .clean vals ∧
            vals ≠ [BitVec.ofNat 8 ws.length]) →
        exec (.answerEnd edges) s = .next (ended .garbled [])))

/-- R48, R63, R64, R70, R89, R112, R153. The call group of a MOVE: its RELEASE takes the old name off the release list and
moves the offer (`takeMoveRelease`), the CLAIM follows after the gap, a CLAIM that is not accepted is followed by
the verifying ROLL, and the claim result gives the request's result; a failure wants a pass. The model takes the
directory unit's reports in the same event (log 3). The CLAIM follows too where the directory unit ignores the release
report and offers no target (the model's choice between R83 and R89: log 44). -/
def Obligations.MoveCallGroup : Prop :=
  ∀ (s : State) (h : RequestCall) (m t : Name) (edges : List LineEdge) (c : Call),
    s.req.hand = some h →
    ∀ ended : ClaimResult → Option Byte → List Instr → Result → State,
    (∀ r st g res, ended r st g res =
      (State.give g (State.takeOutcome t h.ident r st s)).finishRequest h.slot res []) →
    (s.line.flight = .sending .requestUnit (.release m) → (s.slot h.slot).latched = some (.move m t) →
      exec .callSent s = .next ((State.takeMoveRelease m t { s with
        line := { s.line with releases := s.line.releases.filter (fun k => k ≠ m) } }).setFlight
          (.gap .requestUnit (.claim h.ident t)))) ∧
    (s.line.flight = .listening .requestUnit c → c = .claim h.ident t →
      (∀ vals, hearAnswer (.claim h.ident t) edges = .clean vals →
        identityOfBytes (vals.take 6) = h.ident → vals.getD 7 0 = nameByte t →
        exec (.answerEnd edges) s = .next (ended .success none [] .ok)) ∧
      (∀ silent : Bool,
        (hearAnswer (.claim h.ident t) edges = .silent ∧ silent = true) ∨
        ((∃ vals, hearAnswer (.claim h.ident t) edges = .garbled vals) ∧ silent = false) ∨
        ((∃ vals, hearAnswer (.claim h.ident t) edges = .clean vals ∧
          (identityOfBytes (vals.take 6) ≠ h.ident ∨ vals.getD 7 0 ≠ nameByte t)) ∧ silent = false) →
        exec (.answerEnd edges) s = .next { s with
          line := { s.line with flight := .gap .requestUnit (.roll t) }
          req := { s.req with hand := some { h with claimSilent := silent } } })) ∧
    (s.line.flight = .listening .requestUnit c → c = .roll t →
      (∀ vals, hearAnswer (.roll t) edges = .clean vals →
        (identityOfBytes (vals.take 6) = h.ident →
          exec (.answerEnd edges) s = .next (ended .success (some (vals.getD 7 0)) [] .ok)) ∧
        (identityOfBytes (vals.take 6) ≠ h.ident →
          exec (.answerEnd edges) s = .next (ended .dispute none [] .nameTaken))) ∧
      (hearAnswer (.roll t) edges = .silent → h.claimSilent = true →
        exec (.answerEnd edges) s = .next (ended .failure none [.passWantedNotice .move] .noAnswer)) ∧
      ((∃ vals, hearAnswer (.roll t) edges = .garbled vals) ∨
          (hearAnswer (.roll t) edges = .silent ∧ h.claimSilent = false) →
        exec (.answerEnd edges) s = .next (ended .failure none [.passWantedNotice .move] .garbled)))

/-! ### Discovery walker (chapter 6) -/

/-- R98, R99, R112, R113. The notices that start a pass, and what they do where one is running or a sweep is in
flight. A first-pass notice starts a pass in every state but WALKING (the model's reading outside IDLE: log 18). Taken late,
where the coupling has left DISCOVERING, a first-pass notice is only taken, and outside DISCOVERING and SERVING no
pass-wanted or retry-due notice starts a pass (the model's choice: log 45). The claim context is emptied with the start, but kept while a call group of the walker is in flight (the model's reading: log 15). -/
def Obligations.PassStarts : Prop :=
  ∀ (s : State) (src : WantSource) (inFlight : Prop) (kept : Option ClaimContext),
    (inFlight ↔ (∃ k, s.line.flight = .sending .walker k ∨ s.line.flight = .listening .walker k ∨
      s.line.flight = .gap .walker k) ∨ ∃ heard, s.line.flight = .windows heard) →
    (inFlight → kept = s.walker.claim) → (¬ inFlight → kept = none) →
    ∀ begun : WalkerState → List Instr → State,
    (∀ st g, begun st g = { s with
      walker := { s.walker with
        state := st, stack := [[]], candidates := [], claim := kept
        passNumber := s.walker.passNumber + 1, counts := ⟨0, 0, 0, 0, 0, 0, 0, 0⟩, sweepCount := 0 }
      given := g ++ [.passStartReport] }) →
    (s.cm.state = .discovering → s.walker.state ≠ .walking → exec .firstPassNotice s =
      .next (begun .awaitClear (s.given.erase .firstPassNotice))) ∧
    (s.cm.state ≠ .discovering ∨ s.walker.state = .walking → exec .firstPassNotice s =
      .next { s with given := s.given.erase .firstPassNotice }) ∧
    (s.walker.state = .idle ∨ s.walker.state = .sweepDue →
      (s.cm.state = .discovering ∨ s.cm.state = .serving →
        exec (.passWantedNotice src) s =
          .next (begun .walking (s.given.erase (.passWantedNotice src))).decideGrant ∧
        exec .retryDueNotice s = .next (begun .walking (s.given.erase .retryDueNotice)).decideGrant) ∧
      (s.cm.state ≠ .discovering → s.cm.state ≠ .serving →
        exec (.passWantedNotice src) s =
          .next { s with given := s.given.erase (.passWantedNotice src) } ∧
        exec .retryDueNotice s = .next { s with given := s.given.erase .retryDueNotice })) ∧
    (s.walker.state = .sweeping ∨ s.walker.state = .awaitClear ∨ s.walker.state = .walking →
      exec (.passWantedNotice src) s = .next { s with
        walker := { s.walker with owed := true }
        given := s.given.erase (.passWantedNotice src) }) ∧
    (s.walker.state = .sweeping → exec .retryDueNotice s = .next { s with
      walker := { s.walker with owed := true }, given := s.given.erase .retryDueNotice }) ∧
    (s.walker.state = .awaitClear ∨ s.walker.state = .walking →
      exec .retryDueNotice s = .next { s with given := s.given.erase .retryDueNotice })

/-- R100, R102 to R104, R115. The windows of a seek reach a walking walker: the windows that are CLEAN under the prefix
become candidates in ascending order, each GARBLED one pushes its extended prefix so that the smallest digit lies on top,
and at prefix length 11 it counts UNRESOLVED instead. Where the stack has no room left, the prefixes of the smallest
digits are dropped and counted in DROPPED. With 255 seeks sent the pass ends INCOMPLETE on the budget, whatever the
windows held. The windows of a sweep: sixteen SILENT ones leave the walker IDLE or start the owed pass; any other starts a
pass with SEEKS 1 whose root seek they are. -/
def Obligations.SeekWindowsTaken : Prop :=
  (∀ (s : State) (p : Prefix) (heard : List Window) (judged : Nat → Window) (garbled : List Nat)
    (stack : List Prefix) (counts : PassCounts),
    s.walker.state = .walking → s.walker.seeking = some p → s.walker.candidates = [] →
    heard.length = 16 →
    (∀ w, judged w = match heard.getD w .silent with
      | .clean i c =>
        if (identityDigits i).take p.length = p ∧ digitAt i p.length = BitVec.ofNat 4 w ∧ i ≠ 0 ∧
            i ≠ BitVec.allOnes 48 then .clean i c else .garbled
      | x => x) →
    garbled = (List.range 16).filter (fun w => decide (judged w = .garbled)) →
    (∃ surplus, (p.length ≤ 10 ∧ s.walker.stack.length ≤ 24 ∧ s.walker.counts.dropped ≤ 255 ∧
        surplus = s.walker.stack.length + garbled.length - 24 ∧
        stack = (garbled.drop surplus).map (fun w => p ++ [BitVec.ofNat 4 w]) ++ s.walker.stack ∧
        counts = { s.walker.counts with dropped := min 255 (s.walker.counts.dropped + surplus) }) ∨
      (p.length = 11 ∧ s.walker.counts.unresolved ≤ 255 ∧ stack = s.walker.stack ∧
        counts = { s.walker.counts with
          unresolved := min 255 (s.walker.counts.unresolved + garbled.length) })) →
    (s.walker.counts.seeks < 255 → s.handWindows heard = State.endIfDone { s with
      walker := { s.walker with
        candidates := (List.range 16).filterMap fun w =>
          match judged w with
          | .clean i c => some ⟨i, c⟩
          | _ => none
        foundLen := p.length, seeking := none, stack := stack, counts := counts } }) ∧
    (255 ≤ s.walker.counts.seeks → s.line.flight = .free →
      ∀ (ended : WalkerState → List Prefix → Walker) (told : Walker → List Instr → State),
      (∀ st l, ended st l = { s.walker with
        state := st, stack := l, candidates := [], claim := none, seeking := none, foundLen := p.length
        counts := counts, attempts := min 8 (s.walker.attempts + 1)
        record := ⟨s.walker.passNumber, .incomplete, counts⟩ }) →
      (∀ w g, told w g = { s with
        walker := w
        port := { s.port with recGen := s.port.recGen + 2, alert := s.port.alert ||| 8#7 }
        given := s.given ++ g }) →
      (s.walker.owed = false → s.handWindows heard = told (ended .idle [])
        [.passEndReport .incomplete (decide (min 8 (s.walker.attempts + 1) < s.walker.passAttempts))]) ∧
      (s.walker.owed = true → s.handWindows heard = told { ended .walking [[]] with
          passNumber := s.walker.passNumber + 1, counts := ⟨0, 0, 0, 0, 0, 0, 0, 0⟩, sweepCount := 0
          owed := false } [.passEndReport .incomplete false, .passStartReport]))) ∧
  (∀ (s : State) (heard : List Window), s.walker.state = .sweeping → s.walker.seeking = some [] →
    s.line.flight = .free → heard.length = 16 →
    ∀ begun : List Prefix → Nat → Option Prefix → State,
    (∀ l k p, begun l k p = { s with
      walker := { s.walker with
        state := .walking, stack := l, candidates := [], claim := none, seeking := p
        passNumber := s.walker.passNumber + 1, counts := ⟨k, 0, 0, 0, 0, 0, 0, 0⟩, sweepCount := 0
        owed := false }
      given := s.given ++ [.passStartReport] }) →
    ((∀ w ∈ heard, w = .silent) →
      (s.walker.owed = false → s.handWindows heard = { s with
        walker := { s.walker with state := .idle, seeking := none } }) ∧
      (s.walker.owed = true → s.handWindows heard = begun [[]] 0 none)) ∧
    ((∃ w ∈ heard, w ≠ .silent) → s.handWindows heard = (begun [] 1 (some [])).handWindows heard))

/-- R98, R104, R110, R111. The last window of a seek that leaves nothing to seek or claim ends the pass: the record in
one stable change, the result, the attempt count, the pass-end report with the follow-up choice, and then the owed
pass where one is owed. At 255 seeks the pass ends INCOMPLETE whatever is left. -/
def Obligations.SeekEndsPass : Prop :=
  ∀ (s : State) (p : Prefix) (attempts : Nat) (r : PassResult),
    s.walker.state = .walking → s.walker.seeking = some p →
    s.line.flight = .windows (List.replicate 15 .silent) →
    ((s.walker.candidates = [] ∧ s.walker.stack = []) ∨ 255 ≤ s.walker.counts.seeks) →
    r = (if s.walker.counts.unresolved = 0 ∧ s.walker.counts.dropped = 0 ∧ s.walker.counts.noRoom = 0 ∧
      s.walker.counts.seeks < 255 then .complete else .incomplete) →
    attempts = (if r = .complete then 0 else min 8 (s.walker.attempts + 1)) →
    ∀ closed : Walker → List Instr → State,
    (∀ w g, closed w g = { s with
      line := { s.line with flight := .free }
      walker := w
      port := { s.port with recGen := s.port.recGen + 2, alert := s.port.alert ||| 8#7 }
      given := s.given ++ g }) →
    (s.walker.owed = false → exec (.windowEnd []) s = .next (closed
      { s.walker with
        state := .idle, stack := [], candidates := [], claim := none, seeking := none
        foundLen := p.length, attempts := attempts, record := ⟨s.walker.passNumber, r, s.walker.counts⟩ }
      [.passEndReport r (decide (r ≠ .complete ∧ attempts < s.walker.passAttempts))]).decideGrant) ∧
    (s.walker.owed = true → exec (.windowEnd []) s = .next (closed
      { s.walker with
        state := .walking, stack := [[]], candidates := [], claim := none, seeking := none
        foundLen := p.length, attempts := attempts, record := ⟨s.walker.passNumber, r, s.walker.counts⟩
        passNumber := s.walker.passNumber + 1, counts := ⟨0, 0, 0, 0, 0, 0, 0, 0⟩, sweepCount := 0
        owed := false }
      [.passEndReport r false, .passStartReport]).decideGrant)

/-- R99, R111, R116, R117. The line-clear-sent notice at the walker: AWAIT_CLEAR begins to seek, a pass running in
SERVING is closed INCOMPLETE with its attempt count kept and a fresh one starts, SWEEPING owes a pass. While a call group
of the walker is in flight its claim context stays (the model's reading: log 15) and its seek is forgotten (the model's
choice: log 39); in
DISCOVERING a pass that runs goes on (the model's reading: log 14). In IDLE and SWEEP_DUE a pass starts, but outside
DISCOVERING and SERVING, where the notice is late, none does (the model's choice: log 45). The coupling-lost notice closes a running pass
INCOMPLETE and leaves the walker IDLE and empty, its claim context too.
R114. A round end taken in SERVING adds 1 to the sweep counter, up to 255; in IDLE a counter at or above a
SWEEP_ROUNDS that is not 0 makes a sweep due. Outside SERVING the notice counts nothing. -/
def Obligations.WalkerClearAndLoss : Prop :=
  (∀ (s : State) (why : LossReason) (inFlight : Prop) (kept : Option ClaimContext),
    (inFlight ↔ (∃ k, s.line.flight = .sending .walker k ∨ s.line.flight = .listening .walker k ∨
      s.line.flight = .gap .walker k) ∨ ∃ heard, s.line.flight = .windows heard) →
    (inFlight → kept = s.walker.claim) → (¬ inFlight → kept = none) →
    (s.walker.state = .awaitClear → exec .walkerLineClearSent s = .next (State.decideGrant { s with
      walker := { s.walker with state := .walking }
      given := s.given.erase .walkerLineClearSent })) ∧
    (s.walker.state = .walking → s.cm.state = .discovering →
      exec .walkerLineClearSent s = .next (State.decideGrant { s with
        given := s.given.erase .walkerLineClearSent })) ∧
    (s.walker.state = .walking → s.cm.state ≠ .discovering →
      exec .walkerLineClearSent s = .next (State.decideGrant { s with
        walker := { s.walker with
          state := .walking, stack := [[]], candidates := [], claim := kept, seeking := none
          record := ⟨s.walker.passNumber, .incomplete, s.walker.counts⟩
          passNumber := s.walker.passNumber + 1, counts := ⟨0, 0, 0, 0, 0, 0, 0, 0⟩, sweepCount := 0
          owed := false }
        port := { s.port with recGen := s.port.recGen + 2, alert := s.port.alert ||| 8#7 }
        given := s.given.erase .walkerLineClearSent ++
          [.passEndReport .incomplete false, .passStartReport] })) ∧
    (s.walker.state = .idle ∨ s.walker.state = .sweepDue →
      (s.cm.state = .discovering ∨ s.cm.state = .serving →
        exec .walkerLineClearSent s = .next (State.decideGrant { s with
          walker := { s.walker with
            state := .walking, stack := [[]], candidates := [], claim := kept
            passNumber := s.walker.passNumber + 1, counts := ⟨0, 0, 0, 0, 0, 0, 0, 0⟩, sweepCount := 0 }
          given := s.given.erase .walkerLineClearSent ++ [.passStartReport] })) ∧
      (s.cm.state ≠ .discovering → s.cm.state ≠ .serving →
        exec .walkerLineClearSent s = .next { s with given := s.given.erase .walkerLineClearSent })) ∧
    (s.walker.state = .sweeping → exec .walkerLineClearSent s = .next { s with
      walker := { s.walker with owed := true }, given := s.given.erase .walkerLineClearSent }) ∧
    (s.walker.state = .awaitClear ∨ s.walker.state = .walking →
      exec (.walkerCouplingLost why) s = .next { s with
        walker := { s.walker with
          state := .idle, stack := [], candidates := [], claim := none, seeking := none, owed := false
          attempts := 0, sweepCount := 0
          record := ⟨s.walker.passNumber, .incomplete, s.walker.counts⟩ }
        port := { s.port with recGen := s.port.recGen + 2, alert := s.port.alert ||| 8#7 }
        given := s.given.erase (.walkerCouplingLost why) ++ [.passEndReport .incomplete false] }) ∧
    (s.walker.state ≠ .awaitClear → s.walker.state ≠ .walking →
      exec (.walkerCouplingLost why) s = .next { s with
        walker := { s.walker with
          state := .idle, stack := [], candidates := [], claim := none, seeking := none, owed := false
          attempts := 0, sweepCount := 0 }
        given := s.given.erase (.walkerCouplingLost why) })) ∧
  (∀ (s : State) (k : Nat), k = min 255 (s.walker.sweepCount + 1) →
    (s.cm.state = .serving → s.walker.state = .idle → s.walker.sweepRounds ≠ 0 → s.walker.sweepRounds ≤ k →
      exec .roundEndNotice s = .next (State.decideGrant { s with
        walker := { s.walker with sweepCount := k, state := .sweepDue }
        given := s.given.erase .roundEndNotice })) ∧
    (s.cm.state = .serving → (s.walker.state ≠ .idle ∨ s.walker.sweepRounds = 0 ∨ k < s.walker.sweepRounds) →
      exec .roundEndNotice s = .next { s with
        walker := { s.walker with sweepCount := k }, given := s.given.erase .roundEndNotice }) ∧
    (s.cm.state ≠ .serving → exec .roundEndNotice s = .next { s with
      given := s.given.erase .roundEndNotice }))

/-! ### Directory (chapter 5) -/

/-- R81, R82. Name choice: the entry that holds the identity decides; otherwise the lowest free name of the class's
range, then the lowest free name of all, then the eviction of the STALE entry with the smallest KEEP, the lowest
name among equals; NO_ROOM where no entry is STALE. -/
def Obligations.NameChoiceOrder : Prop :=
  ∀ (s : State) (i : Identity) (c : Byte) (free : Name → Prop) (inRange : Name → Prop) (ce : ClassEntry),
    DirInv s → (∀ n, free n ↔ (s.entry n).state = .vacant ∧ (s.entry n).owed = false) →
    (∀ k : Fin 64, k.val = min c.toNat 63 → ce = s.port.classMap[k]) →
    (∀ n : Name, inRange n ↔ ce.low.toNat ≤ n.val + 1 ∧ n.val + 1 ≤ ce.high.toNat) →
    (∀ n, (s.entry n).ident = i →
      ((s.entry n).state = .bound ∨ (s.entry n).state = .held → s.nameChoice i c = .reclaim n) ∧
      ((s.entry n).state = .stale ∨ (s.entry n).state = .retiring → s.nameChoice i c = .ret n) ∧
      ((s.entry n).state = .offered ∨ (s.entry n).state = .disputed → s.nameChoice i c = .busy)) ∧
    ((∀ n, (s.entry n).ident = i → (s.entry n).state = .vacant) →
      (∀ n, free n → inRange n → (∀ m, m < n → ¬ (free m ∧ inRange m)) → s.nameChoice i c = .new n) ∧
      (∀ n, (∀ m, free m → ¬ inRange m) → free n → (∀ m, m < n → ¬ free m) →
        s.nameChoice i c = .new n) ∧
      ((∀ n, ¬ free n) → (∃ n, (s.entry n).state = .stale) → s.nameChoice i c = .evicted) ∧
      ((∀ n, ¬ free n) → (∀ n, (s.entry n).state ≠ .stale) → s.nameChoice i c = .noRoom)) ∧
    (∀ n, s.victim = some n ↔ (s.entry n).state = .stale ∧ ∀ m, (s.entry m).state = .stale → m ≠ n →
      (s.entry n).keep < (s.entry m).keep ∨ ((s.entry n).keep = (s.entry m).keep ∧ n < m))

/-- R51, R83, R100, R106. The walker's claim grant: NEW and RETURN make the entry OFFERED in one stable change, RECLAIM
leaves it, the offer record and the claim context are filled and the CLAIM is sent; EVICTED, NO_ROOM and BUSY
remove the candidate and count it. An eviction leaves the entry RETIRING under ACK_MASK.DEPART, and otherwise VACANT with
RELEASE_OWED and its name in the release list (R76, R82). -/
def Obligations.ClaimGrantMakesOffer : Prop :=
  ∀ (s : State) (x : Candidate) (rest : List Candidate) (ce : ClassEntry),
    s.line.active = true → s.cm.state = .discovering ∨ s.cm.state = .serving →
    s.line.flight = .free → s.nextGrant = some (.rotation .walker) →
    s.walker.state = .walking → s.walker.candidates = x :: rest →
    (∀ k : Fin 64, k.val = min x.cls.toNat 63 → ce = s.port.classMap[k]) →
    ∀ offered : Name → OfferKind → Entry → State,
    (∀ n k e, offered n k e = { s with
      line := { s.line with pointer := .walker, flight := .sending .walker (.claim x.ident n) }
      walker := { s.walker with
        claim := some ⟨x, n, k, s.walker.foundLen, digitAt x.ident s.walker.foundLen⟩ }
      dir := { s.dir with
        entries := s.dir.entries.set n.val { e with gen := (s.entry n).gen + 2 } n.isLt
        offer := some ⟨n, x.ident, k, s.entry n⟩ }
      port := { s.port with alert := s.port.alert ||| 2#7 } }) →
    (∀ n, s.nameChoice x.ident x.cls = .new n → s.decideGrant = offered n .new
      { state := .offered, ident := x.ident, cls := x.cls, role := ce.role
        outside := !decide (ce.low.toNat ≤ n.val + 1 ∧ n.val + 1 ≤ ce.high.toNat) }) ∧
    (∀ n, s.nameChoice x.ident x.cls = .ret n → s.decideGrant = offered n .ret { s.entry n with
      state := .offered, ident := x.ident, cls := x.cls, role := ce.role, strikes := 0, keep := 0 }) ∧
    (∀ n, s.nameChoice x.ident x.cls = .reclaim n → s.decideGrant = { s with
      line := { s.line with pointer := .walker, flight := .sending .walker (.claim x.ident n) }
      walker := { s.walker with
        claim := some ⟨x, n, .reclaim, s.walker.foundLen, digitAt x.ident s.walker.foundLen⟩ }
      dir := { s.dir with offer := some ⟨n, x.ident, .reclaim, s.entry n⟩ } }) ∧
    (s.nameChoice x.ident x.cls = .noRoom → s.grant (.rotation .walker) = State.endIfDone { s with
      line := { s.line with pointer := .walker }
      walker := { s.walker with
        candidates := rest
        counts := { s.walker.counts with noRoom := min 255 (s.walker.counts.noRoom + 1) } } }) ∧
    (s.nameChoice x.ident x.cls = .busy → s.grant (.rotation .walker) = State.endIfDone { s with
      line := { s.line with pointer := .walker }
      walker := { s.walker with
        candidates := rest
        counts := { s.walker.counts with unresolved := min 255 (s.walker.counts.unresolved + 1) } } }) ∧
    (∀ v, s.nameChoice x.ident x.cls = .evicted → s.victim = some v → s.dir.ackMask.depart = true →
      s.grant (.rotation .walker) = State.endIfDone { s with
        line := { s.line with pointer := .walker }
        walker := { s.walker with
          candidates := rest
          counts := { s.walker.counts with noRoom := min 255 (s.walker.counts.noRoom + 1) } }
        dir := { s.dir with entries := s.dir.entries.set v.val { s.entry v with
          gen := (s.entry v).gen + 2, state := .retiring, strikes := 0, keep := 0 } v.isLt }
        port := { s.port with alert := s.port.alert ||| 2#7 } }) ∧
    (∀ v, s.nameChoice x.ident x.cls = .evicted → s.victim = some v → s.dir.ackMask.depart = false →
      s.grant (.rotation .walker) = State.endIfDone { s with
        line := { s.line with pointer := .walker, releases := insertName v s.line.releases }
        walker := { s.walker with
          candidates := rest
          counts := { s.walker.counts with noRoom := min 255 (s.walker.counts.noRoom + 1) } }
        dir := { s.dir with
          entries := s.dir.entries.set v.val
            { gen := (s.entry v).gen + 2, state := .vacant, owed := true } v.isLt }
        port := { s.port with alert := s.port.alert ||| 2#7 } })

/-- R76, R84 to R88. A claim outcome against the offer record: success, failure and dispute for each kind of offer; a
report that finds no offer of its name and identity, or the record empty, changes nothing. -/
def Obligations.ClaimOutcomes : Prop :=
  (∀ (s : State) (n : Name) (i : Identity) (r : ClaimResult) (st : Option Byte), s.dir.offer = none →
    exec (.claimOutcomeReport n i r st) s = .next { s with
      given := s.given.erase (.claimOutcomeReport n i r st) }) ∧
  ∀ (s : State) (n : Name) (i : Identity) (k : OfferKind) (prior : Entry) (st : Option Byte) (e : Entry),
    s.dir.offer = some ⟨n, i, k, prior⟩ → e = s.entry n → n ∉ s.line.releases → k ≠ .move →
    (k ≠ .reclaim → e.state = .offered) → (k = .reclaim → e.state = .bound ∨ e.state = .held) →
    ∀ left : ClaimResult → Option Byte → Entry → State,
    (∀ r st e', left r st e' = { s with
      dir := { s.dir with
        entries := s.dir.entries.set n.val { e' with gen := e.gen + 2 } n.isLt, offer := none }
      port := { s.port with alert := s.port.alert ||| 2#7 }
      given := s.given.erase (.claimOutcomeReport n i r st) }) →
    ∀ released : ClaimResult → Entry → List Instr → State,
    (∀ r e' g, released r e' g = { left r none e' with
      line := { s.line with releases := insertName n s.line.releases }
      given := s.given.erase (.claimOutcomeReport n i r none) ++ g }) →
    (k = .new → exec (.claimOutcomeReport n i .success st) s = .next (left .success st { e with
      state := if s.dir.ackMask.join then .held else .bound
      sticky := false, conflict := false, devstat := st.getD 0, stamp := s.roll.round, strikes := 0 })) ∧
    (k = .ret → exec (.claimOutcomeReport n i .success st) s = .next (left .success st { e with
      state := if s.dir.ackMask.ret then .held else .bound
      sticky := true, conflict := false, devstat := st.getD e.devstat, stamp := s.roll.round
      strikes := 0 })) ∧
    (k = .reclaim → exec (.claimOutcomeReport n i .success st) s = .next (left .success st { e with
      devstat := st.getD e.devstat, stamp := s.roll.round, strikes := 0 })) ∧
    (k = .new → exec (.claimOutcomeReport n i .failure none) s =
      .next (released .failure { state := .vacant, owed := true } []).decideGrant) ∧
    (k = .ret → exec (.claimOutcomeReport n i .failure none) s = .next (left .failure none prior)) ∧
    (k = .reclaim → exec (.claimOutcomeReport n i .failure none) s = .next { s with
      dir := { s.dir with offer := none }
      given := s.given.erase (.claimOutcomeReport n i .failure none) }) ∧
    exec (.claimOutcomeReport n i .dispute none) s = .next (released .dispute { e with
      state := .disputed, conflict := true, owed := true, strikes := 0, keep := 0 }
      [.passWantedNotice .dispute]).decideGrant ∧
    (∀ n' i' r st', n' ≠ n ∨ i' ≠ i → exec (.claimOutcomeReport n' i' r st') s = .next { s with
      given := s.given.erase (.claimOutcomeReport n' i' r st') })

/-- R76, R87 to R89. A MOVE at the directory: on its release the old entry is vacated and the target offered to its
identity; success leaves the target BOUND whatever ACK_MASK holds, failure VACANT with RELEASE_OWED, a dispute DISPUTED
with the dispute notice to the walker. A release report outside SERVING or for an entry that is not BOUND changes
nothing, nor does an outcome report that finds the offer record empty or another offer in it. -/
def Obligations.MoveReports : Prop :=
  ∀ (s : State) (m t : Name) (st : Option Byte) (ce : ClassEntry),
    m ≠ t → (∀ k : Fin 64, k.val = min (s.entry m).cls.toNat 63 → ce = s.port.classMap[k]) →
    (s.cm.state = .serving → (s.entry m).state = .bound →
      ∃ u, exec (.moveReleaseReport m t) s = .next { s with
          dir := u
          port := { s.port with alert := s.port.alert ||| 2#7 }
          given := s.given.erase (.moveReleaseReport m t) } ∧
        u.entries[m] = { state := .vacant, gen := (s.entry m).gen + 2 } ∧
        u.entries[t] = {
          gen := (s.entry t).gen + 2, state := .offered, ident := (s.entry m).ident
          cls := (s.entry m).cls, role := (s.entry m).role, devstat := (s.entry m).devstat
          outside := !decide (ce.low.toNat ≤ t.val + 1 ∧ t.val + 1 ≤ ce.high.toNat) } ∧
        (∀ n : Name, n ≠ m → n ≠ t → u.entries[n] = s.entry n) ∧
        u.offer = some ⟨t, (s.entry m).ident, .move, {}⟩ ∧ u.ackMask = s.dir.ackMask) ∧
    (s.cm.state ≠ .serving ∨ (s.entry m).state ≠ .bound →
      exec (.moveReleaseReport m t) s = .next { s with
        given := s.given.erase (.moveReleaseReport m t) }) ∧
    (∀ i prior, s.dir.offer = some ⟨t, i, .move, prior⟩ → (s.entry t).state = .offered →
      exec (.moveOutcomeReport t i .success st) s = .next { s with
        dir := { s.dir with
          entries := s.dir.entries.set t.val { s.entry t with
            gen := (s.entry t).gen + 2, state := .bound, sticky := false, conflict := false
            devstat := st.getD (s.entry t).devstat, stamp := s.roll.round, strikes := 0 } t.isLt
          offer := none }
        port := { s.port with alert := s.port.alert ||| 2#7 }
        given := s.given.erase (.moveOutcomeReport t i .success st) } ∧
      (t ∉ s.line.releases → exec (.moveOutcomeReport t i .failure none) s =
        .next (State.decideGrant { s with
          dir := { s.dir with
            entries := s.dir.entries.set t.val
              { state := .vacant, owed := true, gen := (s.entry t).gen + 2 } t.isLt
            offer := none }
          line := { s.line with releases := insertName t s.line.releases }
          port := { s.port with alert := s.port.alert ||| 2#7 }
          given := s.given.erase (.moveOutcomeReport t i .failure none) })) ∧
      (t ∉ s.line.releases → exec (.moveOutcomeReport t i .dispute none) s =
        .next (State.decideGrant { s with
          dir := { s.dir with
            entries := s.dir.entries.set t.val { s.entry t with
              gen := (s.entry t).gen + 2, state := .disputed, conflict := true, owed := true
              strikes := 0, keep := 0 } t.isLt
            offer := none }
          line := { s.line with releases := insertName t s.line.releases }
          port := { s.port with alert := s.port.alert ||| 2#7 }
          given := s.given.erase (.moveOutcomeReport t i .dispute none) ++
            [.passWantedNotice .dispute] }))) ∧
    (∀ n i r, (∀ o, s.dir.offer = some o → o.name ≠ n ∨ o.ident ≠ i) →
      exec (.moveOutcomeReport n i r st) s = .next { s with
        given := s.given.erase (.moveOutcomeReport n i r st) })

/-- R74, R87, R90, R91. The roll caller's reports: live writes for an answer that changes nothing, a strike and a
retention step; one stable change for a changed status, a strike-out, a revival, a dispute and an expired retention.
A report outside SERVING, or for an entry in another state, changes nothing. A report that comes after the loss of a SERVING
coupling and before the directory unit's coupling-lost notice is taken, and one that comes after the notice is ignored
(R129; how the model tells the two apart: log 41). -/
def Obligations.RollReports : Prop :=
  ∀ (s : State) (n : Name) (e : Entry), e = s.entry n → n ∉ s.line.releases →
    ∀ live stable : RollReport → Entry → State,
    (∀ rep e', live rep e' = { s with
      dir := { s.dir with entries := s.dir.entries.set n.val e' n.isLt }
      given := s.given.erase (.rollReport n rep) }) →
    (∀ rep e', stable rep e' = { live rep { e' with gen := e.gen + 2 } with
      port := { s.port with alert := s.port.alert ||| 2#7 } }) →
    ∀ disputed : Entry,
    disputed = { e with state := .disputed, conflict := true, owed := true, strikes := 0, keep := 0 } →
    (s.cm.state = .serving ∨ s.dir.serving = true →
      (e.state = .bound ∨ e.state = .held →
        (∀ st rd, exec (.rollReport n (.answered st rd)) s = .next (if st = e.devstat then
          live (.answered st rd) { e with stamp := rd, strikes := 0 }
          else stable (.answered st rd) { e with devstat := st, stamp := rd, strikes := 0 })) ∧
        (∀ k, exec (.rollReport n (.strike k)) s = .next (live (.strike k) { e with strikes := k })) ∧
        exec (.rollReport n .struckOut) s = .next (stable .struckOut { e with
          state := .stale, strikes := 0, keep := s.roll.keepRounds })) ∧
      (e.state = .stale →
        (∀ st rd, exec (.rollReport n (.revived st rd)) s = .next (stable (.revived st rd) { e with
          state := .bound, devstat := st, stamp := rd, strikes := 0, keep := 0 })) ∧
        (∀ k, exec (.rollReport n (.retentionStep k)) s =
          .next (live (.retentionStep k) { e with keep := k })) ∧
        (s.dir.ackMask.depart = true → exec (.rollReport n .retentionExpired) s =
          .next (stable .retentionExpired { e with state := .retiring, strikes := 0, keep := 0 })) ∧
        (s.dir.ackMask.depart = false → exec (.rollReport n .retentionExpired) s =
          .next (State.decideGrant { stable .retentionExpired { state := .vacant, owed := true } with
            line := { s.line with releases := insertName n s.line.releases } }))) ∧
      (e.state = .bound ∨ e.state = .held ∨ e.state = .stale → exec (.rollReport n .dispute) s =
        .next (State.decideGrant { stable .dispute disputed with
          line := { s.line with releases := insertName n s.line.releases }
          given := s.given.erase (.rollReport n .dispute) ++ [.passWantedNotice .dispute] }))) ∧
    (∀ rep, ((s.cm.state ≠ .serving ∧ s.dir.serving = false) ∨
        (rep ≠ .dispute ∧ e.state = .stale ∧
          ((∃ a b, rep = .answered a b) ∨ (∃ k, rep = .strike k) ∨ rep = .struckOut)) ∨
        ((e.state = .bound ∨ e.state = .held) ∧
          ((∃ a b, rep = .revived a b) ∨ (∃ k, rep = .retentionStep k) ∨ rep = .retentionExpired)) ∨
        e.state = .vacant ∨ e.state = .offered ∨ e.state = .disputed ∨ e.state = .retiring) →
      exec (.rollReport n rep) s = .next { s with given := s.given.erase (.rollReport n rep) })

/-- R72, R73, R77, R94, R95. What the release-sent notice, the line-clear-sent notice and the coupling-lost notice make of
each entry; every entry they change receives one stable change, and ALERT.DIRECTORY is raised where one does and not
otherwise. The coupling-lost notice also restores an OFFERED entry, empties the offer record, takes the names it clears
off the release list, and ends the taking of roll reports (R129; log 41). An OFFERED entry that no offer record names,
which no run of the part's own events leaves, becomes VACANT (the model's choice: log 17). -/
def Obligations.EntriesResolved : Prop :=
  ∀ (s : State) (why : LossReason) (freed cleared : Entry → Entry) (lost : Name → Entry → Entry)
    (after : Vector Entry 62 → Instr → State),
    (∀ e, (s.dir.ackMask.conflict = true → freed e = { e with gen := e.gen + 2, state := .retiring, owed := false }) ∧
      (s.dir.ackMask.conflict = false → freed e = { gen := e.gen + 2, state := .vacant })) →
    (∀ e, (e.state = .bound ∨ e.state = .held → cleared e = { e with
          gen := e.gen + 2, state := .stale, strikes := 0, keep := s.roll.keepRounds }) ∧
      (e.state = .disputed → cleared e = freed e) ∧
      (e.state = .vacant → e.owed = true → cleared e = { e with gen := e.gen + 2, owed := false }) ∧
      ((e.state = .vacant ∧ e.owed = false) ∨ e.state = .offered ∨ e.state = .stale ∨
        e.state = .retiring → cleared e = e)) →
    (∀ n e, (e.state ≠ .offered → lost n e = cleared e) ∧
      (∀ o, e.state = .offered → s.dir.offer = some o → o.name = n →
        lost n e = { o.prior with gen := e.gen + 2 }) ∧
      (e.state = .offered → (∀ o, s.dir.offer = some o → o.name ≠ n) →
        lost n e = { gen := e.gen + 2, state := .vacant })) →
    (∀ v c, after v c = { s with
      dir := { s.dir with entries := v }
      port := { s.port with alert :=
        if v = s.dir.entries then s.port.alert else s.port.alert ||| 2#7 }
      given := s.given.erase c }) →
    (∀ (n : Name) (e u : Entry), e = s.entry n →
      (e.state = .vacant → e.owed = true → u = { e with gen := e.gen + 2, owed := false }) →
      (e.state = .disputed → u = freed e) →
      (e.state ≠ .vacant ∨ e.owed = false → e.state ≠ .disputed → u = e) →
      exec (.directoryReleaseSent n) s =
        .next (after (s.dir.entries.set n.val u n.isLt) (.directoryReleaseSent n))) ∧
    exec .directoryLineClearSent s =
      .next (after (Vector.ofFn fun n => cleared (s.entry n)) .directoryLineClearSent) ∧
    (∀ t, t = after (Vector.ofFn fun n => lost n (s.entry n)) (.directoryCouplingLost why) →
      exec (.directoryCouplingLost why) s = .next { t with
        dir := { t.dir with offer := none, serving := false }
        line := { s.line with releases := s.line.releases.filter (fun n =>
          !((s.entry n).owed && !(lost n (s.entry n)).owed)) } })

/-- R79, R137. A seen word written in RUN acknowledges the entry whose GEN it equals: HELD becomes BOUND, RETIRING
becomes VACANT with RELEASE_OWED. A write that differs, one for an entry in another state, and one in HOLD are
stored and do nothing else. -/
def Obligations.Acknowledgement : Prop :=
  ∀ (s : State) (n : Name) (v : Word),
    ∀ stored : State, stored = { s with
      port := { s.port with seen := s.port.seen.set n.val v n.isLt } } →
    (s.port.run = true → v = (s.entry n).gen → (s.entry n).state = .held →
      exec (.acknowledgement n v) s = .next { stored with
        dir := { s.dir with
          entries := s.dir.entries.set n.val
            { s.entry n with gen := (s.entry n).gen + 2, state := .bound } n.isLt }
        port := { stored.port with alert := s.port.alert ||| 2#7 } }) ∧
    (s.port.run = true → v = (s.entry n).gen → (s.entry n).state = .retiring → n ∉ s.line.releases →
      exec (.acknowledgement n v) s = .next (State.decideGrant { stored with
        dir := { s.dir with
          entries := s.dir.entries.set n.val
            { state := .vacant, owed := true, gen := (s.entry n).gen + 2 } n.isLt }
        line := { s.line with releases := insertName n s.line.releases }
        port := { stored.port with alert := s.port.alert ||| 2#7 } })) ∧
    (s.port.run = false ∨ v ≠ (s.entry n).gen ∨
        ((s.entry n).state ≠ .held ∧ (s.entry n).state ≠ .retiring) →
      exec (.acknowledgement n v) s = .next stored)

/-! ### Roll caller (chapter 7) -/

/-- R121 to R124, R131, R132. The serving notice starts the roll period timer, and starts nothing where the coupling is not
SERVING when it is taken or the timer runs (the model's reading: log 43); an expiry begins a round over the BOUND, HELD
and STALE entries, or sets round-owed where one is in progress; a round that ends gives the round-end notice and
begins the owed round, which ends at once with a notice of its own where no name is due; the coupling-lost notice stops the
timer and empties everything but the round number. -/
def Obligations.RollRounds : Prop :=
  ∀ (s : State) (why : LossReason) (names : List Name),
    names = (List.finRange 62).filter (fun n => decide ((s.entry n).state = .bound ∨
      (s.entry n).state = .held ∨ (s.entry n).state = .stale)) →
    (s.cm.state = .serving → s.roll.timer = none → exec .rollServingNotice s = .next { s with
      roll := { s.roll with timer := some s.roll.rollMs }, given := s.given.erase .rollServingNotice }) ∧
    (s.cm.state ≠ .serving ∨ s.roll.timer ≠ none → exec .rollServingNotice s = .next { s with
      given := s.given.erase .rollServingNotice }) ∧
    (s.roll.timer ≠ none → s.roll.inProgress = true → exec .rollPeriodExpiry s = .next { s with
      roll := { s.roll with timer := some s.roll.rollMs, owed := true } }) ∧
    (s.roll.timer ≠ none → s.roll.inProgress = false → names ≠ [] →
      exec .rollPeriodExpiry s = .next (State.decideGrant { s with
        roll := { s.roll with
          timer := some s.roll.rollMs, round := s.roll.round + 1, due := names, inProgress := true } })) ∧
    (s.roll.timer ≠ none → s.roll.inProgress = false → names = [] → s.roll.owed = false →
      exec .rollPeriodExpiry s = .next { s with
        roll := { s.roll with
          timer := some s.roll.rollMs, round := s.roll.round + 1, due := [], inProgress := false }
        given := s.given ++ [.roundEndNotice] }) ∧
    (s.roll.owed = false → s.endRound = { s with
      roll := { s.roll with inProgress := false }, given := s.given ++ [.roundEndNotice] }) ∧
    (s.roll.owed = true → names ≠ [] → s.endRound = { s with
      roll := { s.roll with round := s.roll.round + 1, due := names, inProgress := true, owed := false }
      given := s.given ++ [.roundEndNotice] }) ∧
    (s.roll.owed = true → names = [] → s.endRound = { s with
      roll := { s.roll with round := s.roll.round + 1, due := [], inProgress := false, owed := false }
      given := s.given ++ [.roundEndNotice, .roundEndNotice] }) ∧
    exec (.rollCouplingLost why) s = .next { s with
      roll := { s.roll with timer := none, due := [], inProgress := false, owed := false, hand := none }
      given := s.given.erase (.rollCouplingLost why) }

/-! ### Requests (chapter 9) -/

/-- R135, R145, R146, R151, R163. An ASK write with intent POST, for any kind in the slot: refused with ALERT.MISUSE for a
ticket that is 0 or shown already and for a slot that is busy; accepted in HOLD it ends NOT_RUNNING, and in RUN with
a bad form BAD_REQUEST. An intent of 0 or 3 is refused whatever the ticket. That each of the eleven post rows acts by
whatever kind the slot holds is the model's reading (log 19), and that a RETIME or LIMITS ended in HOLD writes no data word
is the model's choice (log 47). -/
def Obligations.PostsJudged : Prop :=
  ∀ (s : State) (k : SlotNo) (ticket : Byte) (t : Slot), t = s.slot k →
    (∀ three : Bool, exec (.askInvalidIntent k ticket three) s = .next { s with
      req := { s.req with slots := s.req.slots.set k.val { t with
        ask := BitVec.ofNat 16 ((if three then 768 else 0) + ticket.toNat) } k.isLt }
      port := { s.port with alert := s.port.alert ||| 32#7 } }) ∧
    ∀ c ∈ [Instr.readRequest k ticket, .writeRequest k ticket, .moveRequest k ticket,
      .forgetRequest k ticket, .searchRequest k ticket, .reseatRequest k ticket, .retimeRequest k ticket,
      .limitsRequest k ticket, .driveRequest k ticket, .rearmRequest k ticket, .postUnknownKind k ticket],
    ∀ ended : Result → State,
    (∀ r, ended r = { s with
      req := { s.req with
        slots := s.req.slots.set k.val { t with
          ask := BitVec.ofNat 16 (256 + ticket.toNat), ticket := ticket, phase := .done, result := r
          latched := none, wait := none } k.isLt
        postOrder := s.req.postOrder.filter (fun j => j ≠ k) }
      port := { s.port with alert := s.port.alert ||| 4#7 } }) →
    (ticket = 0 ∨ ticket = t.ticket ∨ t.phase = .waiting ∨ t.phase = .onLine →
      exec c s = .next { s with
        req := { s.req with slots := s.req.slots.set k.val { t with
          ask := BitVec.ofNat 16 (256 + ticket.toNat) } k.isLt }
        port := { s.port with alert := s.port.alert ||| 32#7 } }) ∧
    (ticket ≠ 0 → ticket ≠ t.ticket → t.phase = .free ∨ t.phase = .done →
      (s.port.run = false → exec c s = .next (ended .notRunning)) ∧
      (s.port.run = true →
        (t.kind = 0 ∨ 11 ≤ t.kind.toNat ∨
          ((t.kind = 1 ∨ t.kind = 2) ∧ (t.count = 0 ∨ 17 ≤ t.count.toNat)) ∨
          ((t.kind = 1 ∨ t.kind = 2 ∨ t.kind = 3 ∨ t.kind = 4) ∧ (t.name = 0 ∨ 63 ≤ t.name.toNat)) ∨
          (t.kind = 3 ∧ (t.argA = 0 ∨ 63 ≤ t.argA.toNat))) →
        exec c s = .next (ended .badRequest)))

/-- R144, R146, R147, R152, R153. An accepted READ, WRITE or MOVE in RUN: in DISCOVERING it waits, in SERVING the entry
check decides first, and in every other state it ends NOT_COUPLED. A request that waits joins the tail of the
post-order list with its wait timer started and its words latched, and a grant is decided. A MOVE whose target is OFFERED
or DISPUTED ends NAME_TAKEN, as R146 says and R93 does not (the model's choice: log 37). -/
def Obligations.LineRequestsWait : Prop :=
  ∀ (s : State) (k : SlotNo) (ticket : Byte) (t : Slot) (n m : Name) (q : LineRequest) (c : Instr),
    t = s.slot k → s.port.run = true → ticket ≠ 0 → ticket ≠ t.ticket →
    t.phase = .free ∨ t.phase = .done → t.name.toNat = n.val + 1 →
    ((t.kind = 1 ∧ 1 ≤ t.count.toNat ∧ t.count.toNat ≤ 16 ∧ c = .readRequest k ticket ∧
        q = .read n t.argA t.count.toNat) ∨
      (t.kind = 2 ∧ 1 ≤ t.count.toNat ∧ t.count.toNat ≤ 16 ∧ c = .writeRequest k ticket ∧
        q = .write n t.argA (t.data.toList.take t.count.toNat)) ∨
      (t.kind = 3 ∧ t.argA.toNat = m.val + 1 ∧ c = .moveRequest k ticket ∧ q = .move n m)) →
    ∀ shown : Phase → Result → Option LineRequest → Option Nat → List SlotNo → RequestUnit,
    (∀ ph r l w o, shown ph r l w o = { s.req with
      slots := s.req.slots.set k.val { t with
        ask := BitVec.ofNat 16 (256 + ticket.toNat), ticket := ticket, phase := ph, result := r
        latched := l, wait := w } k.isLt
      postOrder := o }) →
    ∀ waits : State, waits = State.decideGrant { s with
      req := shown .waiting .ok (some q) (some s.req.waitMs) (s.req.postOrder ++ [k]) } →
    ∀ ended : Result → State, (∀ r, ended r = { s with
      req := shown .done r none none (s.req.postOrder.filter (fun j => j ≠ k))
      port := { s.port with alert := s.port.alert ||| 4#7 } }) →
    (s.cm.state = .discovering → exec c s = .next waits) ∧
    (s.cm.state = .serving →
      ((s.entry n).state = .bound →
        ((∀ a b, q ≠ .move a b) ∨ ((s.entry m).state = .vacant ∧ (s.entry m).owed = false) →
          exec c s = .next waits) ∧
        (q = .move n m → (s.entry m).state ≠ .vacant ∨ (s.entry m).owed = true →
          exec c s = .next (ended .nameTaken))) ∧
      ((s.entry n).state = .held → exec c s = .next (ended .notReady)) ∧
      ((s.entry n).state = .offered ∨ (s.entry n).state = .disputed →
        exec c s = .next (ended .nameBusy)) ∧
      ((s.entry n).state = .vacant ∨ (s.entry n).state = .stale ∨ (s.entry n).state = .retiring →
        exec c s = .next (ended .noDevice))) ∧
    (s.cm.state ≠ .discovering → s.cm.state ≠ .serving → exec c s = .next (ended .notCoupled))

/-- R9, R45, R151, R154, R156. A RESEAT in SERVING goes ON_LINE and owes a line clear, and ends OK with the
line-clear-sent notice; elsewhere it ends NOT_COUPLED. The coupling-lost notice ends every WAITING and ON_LINE request
with the result for its reason. The notice of entry to DISCOVERING changes nothing (the model's reading: log 12). -/
def Obligations.ReseatAndRequestNotices : Prop :=
  (∀ (s : State) (k : SlotNo) (ticket : Byte) (t : Slot),
    t = s.slot k → s.port.run = true → ticket ≠ 0 → ticket ≠ t.ticket →
    t.phase = .free ∨ t.phase = .done → t.kind = 6 →
    (s.cm.state = .serving → exec (.reseatRequest k ticket) s = .next (State.decideGrant { s with
      line := { s.line with clearOwed := true }
      req := { s.req with slots := s.req.slots.set k.val { t with
        ask := BitVec.ofNat 16 (256 + ticket.toNat), ticket := ticket, phase := .onLine, result := .ok
        latched := some .reseat, wait := none } k.isLt } })) ∧
    (s.cm.state ≠ .serving → exec (.reseatRequest k ticket) s = .next { s with
      req := { s.req with
        slots := s.req.slots.set k.val { t with
          ask := BitVec.ofNat 16 (256 + ticket.toNat), ticket := ticket, phase := .done
          result := .notCoupled, latched := none, wait := none } k.isLt
        postOrder := s.req.postOrder.filter (fun j => j ≠ k) }
      port := { s.port with alert := s.port.alert ||| 4#7 } })) ∧
  (∀ (s : State) (why : LossReason) (c : Instr) (r : Result) (ends : Slot → Prop),
    (c = .requestLineClearSent ∧ r = .ok ∧
        ∀ t, ends t ↔ t.phase = .onLine ∧ t.latched = some .reseat) ∨
      (c = .requestCouplingLost why ∧ (∀ t, ends t ↔ t.phase = .waiting ∨ t.phase = .onLine) ∧
        (why = .decoupled → r = .decoupled) ∧ (why = .faulted → r = .toolFault) ∧
        (why = .hold → r = .notRunning)) →
    ∃ u p, exec c s = .next { s with
        req := { s.req with
          slots := u
          postOrder := if c = .requestLineClearSent then s.req.postOrder else []
          hand := if c = .requestLineClearSent then s.req.hand else none }
        port := { s.port with alert := p }
        given := s.given.erase c } ∧
      (∀ k : SlotNo, (ends (s.slot k) → u[k] = { s.slot k with
          phase := .done, result := r, latched := none, wait := none }) ∧
        (¬ ends (s.slot k) → u[k] = s.slot k)) ∧
      ((∃ k, ends (s.slot k)) → p = s.port.alert ||| 4#7) ∧
      ((∀ k, ¬ ends (s.slot k)) → p = s.port.alert)) ∧
  (∀ s : State, exec .requestDiscoveringNotice s = .next { s with
    given := s.given.erase .requestDiscoveringNotice })

/-- R92, R112, R155. FORGET frees a STALE or RETIRING entry and owes its release, and is refused for any other; SEARCH wants
a pass in DISCOVERING and SERVING, which the walker takes in the same event, and ends NOT_COUPLED elsewhere. -/
def Obligations.ForgetAndSearch : Prop :=
  ∀ (s : State) (k : SlotNo) (ticket : Byte) (t : Slot),
    t = s.slot k → s.port.run = true → ticket ≠ 0 → ticket ≠ t.ticket →
    t.phase = .free ∨ t.phase = .done →
    ∀ ended : Result → State,
    (∀ r, ended r = { s with
      req := { s.req with
        slots := s.req.slots.set k.val { t with
          ask := BitVec.ofNat 16 (256 + ticket.toNat), ticket := ticket, phase := .done, result := r
          latched := none, wait := none } k.isLt
        postOrder := s.req.postOrder.filter (fun j => j ≠ k) }
      port := { s.port with alert := s.port.alert ||| 4#7 } }) →
    (∀ n : Name, t.kind = 4 → t.name.toNat = n.val + 1 →
      ((s.entry n).state = .stale ∨ (s.entry n).state = .retiring → n ∉ s.line.releases →
        exec (.forgetRequest k ticket) s = .next (State.decideGrant { ended .ok with
          dir := { s.dir with
            entries := s.dir.entries.set n.val
              { state := .vacant, owed := true, gen := (s.entry n).gen + 2 } n.isLt }
          line := { s.line with releases := insertName n s.line.releases }
          port := { s.port with alert := s.port.alert ||| 6#7 } })) ∧
      ((s.entry n).state = .vacant → exec (.forgetRequest k ticket) s = .next (ended .noDevice)) ∧
      ((s.entry n).state = .offered ∨ (s.entry n).state = .held ∨ (s.entry n).state = .bound ∨
          (s.entry n).state = .disputed →
        exec (.forgetRequest k ticket) s = .next (ended .wrongState))) ∧
    (t.kind = 5 →
      (s.cm.state ≠ .discovering → s.cm.state ≠ .serving →
        exec (.searchRequest k ticket) s = .next (ended .notCoupled)) ∧
      (s.cm.state = .discovering ∨ s.cm.state = .serving →
        (s.walker.state = .sweeping ∨ s.walker.state = .awaitClear ∨ s.walker.state = .walking →
          exec (.searchRequest k ticket) s = .next { ended .ok with
            walker := { s.walker with owed := true } }) ∧
        (s.walker.state = .idle ∨ s.walker.state = .sweepDue → s.walker.claim = none →
          exec (.searchRequest k ticket) s = .next (State.completeRequest k .ok [] (State.decideGrant { s with
            walker := { s.walker with
              state := .walking, stack := [[]], candidates := []
              passNumber := s.walker.passNumber + 1, counts := ⟨0, 0, 0, 0, 0, 0, 0, 0⟩
              sweepCount := 0 }
            req := { s.req with slots := s.req.slots.set k.val { t with
              ask := BitVec.ofNat 16 (256 + ticket.toNat), ticket := ticket } k.isLt }
            given := s.given ++ [.passStartReport] })))))

/-- R32, R130, R151, R155, R160. RETIME and LIMITS bring their values into range, put them in force at once, write them
back to their parameter words and echo them; ALERT.CLAMPED where a value changed. RETIME lowers STRIKES and KEEP to
the new limits as live writes; a SWEEP_ROUNDS of 0 drops a due sweep. -/
def Obligations.RetimeAndLimits : Prop :=
  ∀ (s : State) (k : SlotNo) (ticket : Byte) (t : Slot) (a b c d e : Word),
    t = s.slot k → s.port.run = true → ticket ≠ 0 → ticket ≠ t.ticket →
    t.phase = .free ∨ t.phase = .done →
    ∀ echoed : List Word → RequestUnit,
    (∀ l, echoed l = { s.req with
      slots := s.req.slots.set k.val { t with
        ask := BitVec.ofNat 16 (256 + ticket.toNat), ticket := ticket, phase := .done, result := .ok
        latched := none, wait := none, data := Vector.ofFn fun j => l.getD j.val t.data[j] } k.isLt
      postOrder := s.req.postOrder.filter (fun j => j ≠ k) }) →
    (t.kind = 7 → a.toNat = max 10 (min 10000 (t.data[0]).toNat) →
      b.toNat = max 1 (min 15 (t.data[1]).toNat) → c.toNat = max 1 (min 255 (t.data[2]).toNat) →
      d.toNat = min 255 (t.data[3]).toNat →
      exec (.retimeRequest k ticket) s = .next { s with
        roll := { s.roll with rollMs := a.toNat, strikeLimit := b.toNat, keepRounds := c.toNat }
        walker := { s.walker with
          sweepRounds := d.toNat
          state := if d = 0 ∧ s.walker.state = .sweepDue then .idle else s.walker.state }
        dir := { s.dir with
          entries := Vector.ofFn fun n => { s.entry n with
            strikes := min (s.entry n).strikes (b.toNat - 1), keep := min (s.entry n).keep c.toNat }
          offer := s.dir.offer.map fun o => if o.kind = .ret then { o with
            prior := { o.prior with keep := min o.prior.keep c.toNat } } else o }
        req := echoed [a, b, c, d]
        port := { s.port with
          params := { s.port.params with rollMs := a, strikeLimit := b, keepRounds := c, sweepRounds := d }
          alert := s.port.alert ||| 4#7 |||
            (if a = t.data[0] ∧ b = t.data[1] ∧ c = t.data[2] ∧ d = t.data[3] then 0#7 else 64#7) } }) ∧
    (t.kind = 8 → a.toNat = max 1 (min 4095 (t.data[0]).toNat) →
      b.toNat = max 1 (min 4095 (t.data[1]).toNat) → c.toNat = max 1 (min 8190 (t.data[2]).toNat) →
      d.toNat = max 1 (min 254 (t.data[3]).toNat) →
      e.toNat = max (d.toNat + 1) (max 2 (min 255 (t.data[4]).toNat)) →
      exec (.limitsRequest k ticket) s = .next { s with
        feed := { s.feed with limits := ⟨a.toNat, b.toNat, c.toNat, d.toNat, e.toNat⟩ }
        req := echoed [a, b, c, d, e]
        port := { s.port with
          params := { s.port.params with
            logicLimit := a, driveLimit := b, sumLimit := c, tripA := d, tripB := e }
          alert := s.port.alert ||| 4#7 |||
            (if a = t.data[0] ∧ b = t.data[1] ∧ c = t.data[2] ∧ d = t.data[3] ∧ e = t.data[4]
              then 0#7 else 64#7) } })

/-- R17, R20, R33, R34, R155. DRIVE on needs SERVING, LOGIC on and a clear latch, and the sample after the switch is
discarded, one that would have tripped stage A too (the model's choice between R24 and R33: log 48); DRIVE off always succeeds. REARM clears a held trip, and takes a FAULTED coupling to MAKING or OPEN; with
neither it ends WRONG_STATE and changes nothing. -/
def Obligations.DriveAndRearm : Prop :=
  ∀ (s : State) (k : SlotNo) (ticket : Byte) (t : Slot),
    t = s.slot k → s.port.run = true → ticket ≠ 0 → ticket ≠ t.ticket →
    t.phase = .free ∨ t.phase = .done →
    ∀ ended : Result → Word → BitVec 7 → State,
    (∀ r g al, ended r g al = { s with
      req := { s.req with
        slots := s.req.slots.set k.val { t with
          ask := BitVec.ofNat 16 (256 + ticket.toNat), ticket := ticket, phase := .done, result := r
          latched := none, wait := none } k.isLt
        postOrder := s.req.postOrder.filter (fun j => j ≠ k) }
      port := { s.port with recGen := s.port.recGen + g, alert := s.port.alert ||| al } }) →
    (t.kind = 9 →
      (t.argA ≠ 0 → s.cm.state = .serving → s.feed.logicOn = true → s.feed.latch = false →
        (s.feed.driveOn = false → exec (.driveRequest k ticket) s = .next { ended .ok 2 5 with
          feed := { s.feed with driveOn := true, discard := true } }) ∧
        (s.feed.driveOn = true → exec (.driveRequest k ticket) s = .next (ended .ok 0 4))) ∧
      (t.argA ≠ 0 → s.cm.state ≠ .serving ∨ s.feed.logicOn = false ∨ s.feed.latch = true →
        exec (.driveRequest k ticket) s = .next (ended .wrongState 0 4)) ∧
      (t.argA = 0 →
        (s.feed.driveOn = true → exec (.driveRequest k ticket) s = .next { ended .ok 2 5 with
          feed := { s.feed with driveOn := false } }) ∧
        (s.feed.driveOn = false → exec (.driveRequest k ticket) s = .next (ended .ok 0 4)))) ∧
    (t.kind = 10 →
      ∀ rearmed : FeedSupervisor, rearmed = { s.feed with
        latch := false, run := 0, trip := ⟨.none, ⟨false, false, false⟩, ⟨0, 0, 0, 0, 0⟩, 0⟩ } →
      (s.cm.state ≠ .faulted → s.feed.latch = false →
        exec (.rearmRequest k ticket) s = .next (ended .wrongState 0 4)) ∧
      (s.cm.state ≠ .faulted → s.feed.latch = true →
        exec (.rearmRequest k ticket) s = .next { ended .ok 2 5 with feed := rearmed }) ∧
      (s.cm.state = .faulted → ∀ g al, (g = 2 ∧ s.feed.latch = false ∧ s.feed.trip = rearmed.trip) ∨
          (g = 4 ∧ (s.feed.latch = true ∨ s.feed.trip ≠ rearmed.trip)) → al = 5#7 →
        (s.cm.first = true ∨ s.cm.last = true →
          exec (.rearmRequest k ticket) s = .next { ended .ok g al with
            cm := { s.cm with state := .making, cause := .none, settle := some s.cm.settleMs }
            feed := rearmed, given := s.given ++ [.feedsOffCommand] }) ∧
        (s.cm.first = false → s.cm.last = false →
          ∃ gv, gv.Perm (s.given ++ [.stopNotice, .feedsOffCommand]) ∧
            exec (.rearmRequest k ticket) s = .next { ended .ok g al with
              cm := { s.cm with state := .opened, cause := .none }
              feed := rearmed, given := gv })))

/-- R147, R149 to R151. A WITHDRAW with TELL's ticket ends a WAITING request WITHDRAWN and is ignored once it is ON_LINE
or DONE; with another ticket, or in FREE, it is refused. The wait timer's expiry ends a WAITING request TIMED_OUT. -/
def Obligations.WithdrawAndTimeout : Prop :=
  ∀ (s : State) (k : SlotNo) (ticket : Byte) (t : Slot) (asked : Word), t = s.slot k →
    asked = BitVec.ofNat 16 (512 + ticket.toNat) →
    ∀ ended : Word → Result → State,
    (∀ w r, ended w r = { s with
      req := { s.req with
        slots := s.req.slots.set k.val { t with
          ask := w, phase := .done, result := r, latched := none, wait := none } k.isLt
        postOrder := s.req.postOrder.filter (fun j => j ≠ k) }
      port := { s.port with alert := s.port.alert ||| 4#7 } }) →
    (ticket = t.ticket → t.phase = .waiting →
      exec (.withdraw k ticket) s = .next (ended asked .withdrawn)) ∧
    (ticket = t.ticket → t.phase = .onLine ∨ t.phase = .done →
      exec (.withdraw k ticket) s = .next { s with
        req := { s.req with slots := s.req.slots.set k.val { t with ask := asked } k.isLt } }) ∧
    (ticket ≠ t.ticket ∨ t.phase = .free →
      exec (.withdraw k ticket) s = .next { s with
        req := { s.req with slots := s.req.slots.set k.val { t with ask := asked } k.isLt }
        port := { s.port with alert := s.port.alert ||| 32#7 } }) ∧
    (t.phase = .waiting → t.wait ≠ none →
      exec (.requestWaitExpiry k) s = .next (ended t.ask .timedOut))

/-! ### Exchange port and run state (chapters 8 and 10) -/

/-- R18, R32, R80, R120, R160, R161. RUN entry from HOLD: every setting brought into range and in force, the live fields
lowered in the entries and in the offer record, every seen word compared, the names of the departures it acknowledges in
the release list, and the coupling OPEN or MAKING by the contacts. A write of 1 in RUN does nothing. That a SWEEP_ROUNDS
of 0 leaves a sweep that is due to the coupling-lost notice is the model's choice (log 50). -/
def Obligations.RunEntrySequence : Prop :=
  ∀ s : State,
    (s.port.run = true → exec .runEntry s = .next s) ∧
    (s.port.run = false → s.cm.state = .dormant →
      ∃ t, exec .runEntry s = .next t ∧ t.port.run = true ∧
        (∀ (p q : Params), p = s.port.params → q = t.port.params →
          q.lineRate.toNat = min 2 p.lineRate.toNat ∧
          q.settleMs.toNat = max 1 (min 250 p.settleMs.toNat) ∧
          q.powerWaitMs.toNat = max 1 (min 2000 p.powerWaitMs.toNat) ∧
          q.passRetryMs.toNat = max 1 (min 1000 p.passRetryMs.toNat) ∧
          q.rollMs.toNat = max 10 (min 10000 p.rollMs.toNat) ∧
          q.strikeLimit.toNat = max 1 (min 15 p.strikeLimit.toNat) ∧
          q.keepRounds.toNat = max 1 (min 255 p.keepRounds.toNat) ∧
          q.sweepRounds.toNat = min 255 p.sweepRounds.toNat ∧
          q.passAttempts.toNat = max 1 (min 8 p.passAttempts.toNat) ∧
          q.callRetries.toNat = min 3 p.callRetries.toNat ∧
          q.requestWaitMs.toNat = max 1 (min 60000 p.requestWaitMs.toNat) ∧ q.ackMask = p.ackMask ∧
          q.logicLimit.toNat = max 1 (min 4095 p.logicLimit.toNat) ∧
          q.driveLimit.toNat = max 1 (min 4095 p.driveLimit.toNat) ∧
          q.sumLimit.toNat = max 1 (min 8190 p.sumLimit.toNat) ∧
          q.tripA.toNat = max 1 (min 254 p.tripA.toNat) ∧
          q.tripB.toNat = max (q.tripA.toNat + 1) (max 2 (min 255 p.tripB.toNat)) ∧
          t.feed = { s.feed with limits :=
            ⟨q.logicLimit.toNat, q.driveLimit.toNat, q.sumLimit.toNat, q.tripA.toNat, q.tripB.toNat⟩ } ∧
          t.walker = { s.walker with
            passAttempts := q.passAttempts.toNat, sweepRounds := q.sweepRounds.toNat } ∧
          t.roll = { s.roll with
            rollMs := q.rollMs.toNat, strikeLimit := q.strikeLimit.toNat
            keepRounds := q.keepRounds.toNat } ∧
          t.callRetries = q.callRetries.toNat ∧ t.req = { s.req with waitMs := q.requestWaitMs.toNat } ∧
          t.dir.ackMask =
            ⟨q.ackMask.getLsbD 0, q.ackMask.getLsbD 1, q.ackMask.getLsbD 2, q.ackMask.getLsbD 3⟩ ∧
          (q.lineRate = 0 → t.line.rate = .k250) ∧ (q.lineRate = 1 → t.line.rate = .k500) ∧
          (q.lineRate = 2 → t.line.rate = .k1000) ∧
          t.cm = { s.cm with
            state := if s.cm.first = true ∨ s.cm.last = true then .making else .opened
            shownFirst := s.cm.first, shownLast := s.cm.last, partialMate := false, cause := .none
            settle := if s.cm.first = true ∨ s.cm.last = true then some q.settleMs.toNat
              else s.cm.settle
            settleMs := q.settleMs.toNat, powerWaitMs := q.powerWaitMs.toNat
            passRetryMs := q.passRetryMs.toNat } ∧
          (∀ c : Fin 64, t.port.classMap[c] =
            if (s.port.classMap[c]).low.toNat ≤ (s.port.classMap[c]).high.toNat ∧
              1 ≤ (s.port.classMap[c]).low.toNat ∧ (s.port.classMap[c]).high.toNat ≤ 62
            then s.port.classMap[c] else { s.port.classMap[c] with low := 1, high := 62 }) ∧
          (∀ n e, e = { s.entry n with
              strikes := min (s.entry n).strikes (t.roll.strikeLimit - 1)
              keep := min (s.entry n).keep t.roll.keepRounds } →
            (s.port.seen[n] = e.gen → e.state = .held →
              t.entry n = { e with gen := e.gen + 2, state := .bound }) ∧
            (s.port.seen[n] = e.gen → e.state = .retiring →
              t.entry n = { gen := e.gen + 2, state := .vacant, owed := true } ∧
              n ∈ t.line.releases) ∧
            (s.port.seen[n] ≠ e.gen ∨ (e.state ≠ .held ∧ e.state ≠ .retiring) → t.entry n = e)) ∧
          (t.port.alert = s.port.alert ||| 1#7 |||
            (if p = q ∧ s.port.classMap = t.port.classMap then 0#7 else 64#7) |||
            (if ∃ n : Name, s.port.seen[n] = (s.entry n).gen ∧
              ((s.entry n).state = .held ∨ (s.entry n).state = .retiring) then 2#7 else 0#7))) ∧
        t.port.seen = s.port.seen ∧ t.port.recGen = s.port.recGen + 2 ∧
        t.port.alertMask = s.port.alertMask ∧ t.pending = s.pending ∧
        t.line = { s.line with rate := t.line.rate, releases := t.line.releases } ∧
        (∀ n : Name, n ∈ t.line.releases ↔ n ∈ s.line.releases ∨
          ((s.entry n).state = .retiring ∧ s.port.seen[n] = (s.entry n).gen)) ∧
        (s.line.releases.Pairwise (· < ·) → t.line.releases.Pairwise (· < ·)) ∧
        t.dir.offer = s.dir.offer.map (fun o => if o.kind = .ret then { o with
          prior := { o.prior with keep := min o.prior.keep t.roll.keepRounds } } else o) ∧
        t.given.Perm (s.given ++ [if s.cm.first = true ∨ s.cm.last = true then .sampleNotice
          else .stopNotice, .feedsOffCommand]))

/-- R12, R19, R22, R133, R139 to R141, R162. A soft hold in RUN makes the coupling DORMANT with the coupling-lost notice of
reason HOLD, and does nothing in HOLD. The feed supervisor takes the notice in this event, so that the tool loses LOGIC in
it: both feeds off in one stable change where one was on, the run counter 0, the trip state kept (the model's reading of
R162: log 38); the other five blocks are given theirs. A write to ALERT clears the flags whose bit is 1; ATTN is low
exactly while an enabled flag is set; an access with both strobes raises ALERT.MISUSE alone. -/
def Obligations.SoftHoldAndRegisters : Prop :=
  ∀ s : State,
    (s.port.run = false → exec .softHold s = .next s) ∧
    (s.port.run = true → s.cm.state ≠ .dormant →
      ∃ g, g.Perm (s.given ++ [Instr.stopNotice] ++
          (if s.cm.state = .discovering ∨ s.cm.state = .serving then [Instr.lineInactiveNotice] else []) ++
          [Instr.lineCouplingLost .hold, Instr.walkerCouplingLost .hold, Instr.directoryCouplingLost .hold,
            Instr.rollCouplingLost .hold, Instr.requestCouplingLost .hold]) ∧
        exec .softHold s = .next { s with
          feed := { s.feed with logicOn := false, driveOn := false, capture := none, run := 0 }
          cm := { s.cm with
            state := .dormant, settle := none, powerWait := none, passRetry := none
            partialMate := false, cause := .none }
          port := { s.port with
            run := false, alert := s.port.alert ||| 1#7
            recGen := s.port.recGen + (if s.feed.logicOn = true ∨ s.feed.driveOn = true then 4 else 2) }
          given := g }) ∧
    (∀ v, ∃ a, exec (.alertClear v) s = .next { s with port := { s.port with alert := a } } ∧
      ∀ k, k < 7 → a.getLsbD k = (s.port.alert.getLsbD k && !v.getLsbD k)) ∧
    (∀ v, ∃ m, exec (.alertmaskWrite v) s = .next { s with port := { s.port with alertMask := m } } ∧
      ∀ k, k < 7 → m.getLsbD k = v.getLsbD k) ∧
    exec .bothStrobes s = .next { s with port := { s.port with alert := s.port.alert ||| 32#7 } } ∧
    (s.attnLow = true ↔ ∃ k, k < 7 ∧ s.port.alert.getLsbD k = true ∧ s.port.alertMask.getLsbD k = true)

/-- R134, R135. A host write is dropped with ALERT.MISUSE for every word whose writer is not the host at that moment;
a parameter or class map word written in HOLD, and a host word or data word of a slot that the host may write, then
read as written with their unused bits 0, and every other word reads as before. Such a write changes that one field and
nothing else of the state, so that a request in hand keeps what it latched (R144). A write to an ASK word, a seen word or a
register is the event of that word's row (R137, R139 to R141, R145; log 20). What a host read of a parameter, of a class map
entry, of the coupling record, of a seen word, of an entry, of a slot and of a register returns is laid out as chapter 11
says, and every word that no area and no layout gives a field reads 0 (R134, R143). -/
def Obligations.HostWriteStoredOrDropped : Prop :=
  (∀ (s : State) (addr : BitVec 11) (v : Word) (a : Nat), a = addr.toNat →
    (((0x0C0 ≤ a ∧ a ≤ 0x100) ∨ (0x13F ≤ a ∧ a ≤ 0x3FF) ∨ (0x011 ≤ a ∧ a ≤ 0x03F) ∨ a = 0x500 ∨
        0x504 ≤ a ∨ (a < 0x0C0 ∧ s.port.run = true) ∨
        (0x400 ≤ a ∧ a < 0x500 ∧ (a % 32 = 1 ∨ (5 ≤ a % 32 ∧ a % 32 ≤ 7) ∨ 24 ≤ a % 32)) ∨
        (∃ k : SlotNo, 0x408 + 32 * k.val ≤ a ∧ a ≤ 0x417 + 32 * k.val ∧
          ((s.slot k).phase = .waiting ∨ (s.slot k).phase = .onLine))) →
      exec (.hostWrite addr v) s = .next { s with
        port := { s.port with alert := s.port.alert ||| 32#7 } }) ∧
    ((((a < 0x011 ∨ (0x040 ≤ a ∧ a < 0x0C0)) ∧ s.port.run = false) ∨
        (0x400 ≤ a ∧ a < 0x500 ∧ 2 ≤ a % 32 ∧ a % 32 ≤ 4) ∨
        (∃ k : SlotNo, 0x408 + 32 * k.val ≤ a ∧ a ≤ 0x417 + 32 * k.val ∧
          ((s.slot k).phase = .free ∨ (s.slot k).phase = .done))) →
      ∃ t, exec (.hostWrite addr v) s = .next t ∧
        t.readWord addr = (if a = 0x00B then v &&& 0x000F#16
          else if 0x040 ≤ a ∧ a < 0x0C0 ∧ a % 2 = 1 then v &&& 0x00FF#16 else v) ∧
        (∀ b, b ≠ addr → t.readWord b = s.readWord b) ∧
        t.cm = s.cm ∧ t.feed = s.feed ∧ t.line = s.line ∧ t.walker = s.walker ∧ t.dir = s.dir ∧
        t.roll = s.roll ∧ t.given = s.given ∧ t.port.alert = s.port.alert)) ∧
  (∀ (s : State) (v : Word) (addr : BitVec 11) (a : Nat) (low high : Byte) (words : Params → List Word),
    a = addr.toNat → low.toNat = v.toNat % 256 → high.toNat = v.toNat / 256 →
    (∀ p, words p = [p.lineRate, p.settleMs, p.powerWaitMs, p.passRetryMs, p.rollMs, p.strikeLimit,
      p.keepRounds, p.sweepRounds, p.passAttempts, p.callRetries, p.requestWaitMs, p.ackMask, p.logicLimit,
      p.driveLimit, p.sumLimit, p.tripA, p.tripB]) →
    (s.port.run = false → a < 0x011 →
      ∀ p, words p = (words s.port.params).set a (if a = 0x00B then v &&& 0x000F#16 else v) →
        exec (.hostWrite addr v) s = .next { s with port := { s.port with params := p } }) ∧
    (∀ c : Fin 64, s.port.run = false →
      (a = 0x040 + 2 * c.val → exec (.hostWrite addr v) s = .next { s with
        port := { s.port with
          classMap := s.port.classMap.set c.val { s.port.classMap[c] with low := low, high := high } c.isLt } }) ∧
      (a = 0x041 + 2 * c.val → exec (.hostWrite addr v) s = .next { s with
        port := { s.port with
          classMap := s.port.classMap.set c.val { s.port.classMap[c] with role := low } c.isLt } })) ∧
    (∀ k : SlotNo, ∀ stored : Slot → State,
      (∀ t, stored t = { s with req := { s.req with slots := s.req.slots.set k.val t k.isLt } }) →
      (a = 0x402 + 32 * k.val → exec (.hostWrite addr v) s =
        .next (stored { s.slot k with kind := low, name := high })) ∧
      (a = 0x403 + 32 * k.val → exec (.hostWrite addr v) s = .next (stored { s.slot k with argA := v })) ∧
      (a = 0x404 + 32 * k.val → exec (.hostWrite addr v) s = .next (stored { s.slot k with count := v })) ∧
      (∀ j : Fin 16, a = 0x408 + 32 * k.val + j.val → (s.slot k).phase = .free ∨ (s.slot k).phase = .done →
        exec (.hostWrite addr v) s =
          .next (stored { s.slot k with data := (s.slot k).data.set j.val v j.isLt })))) ∧
  (∀ (s : State) (v : Word) (addr : BitVec 11),
    (∀ (k : SlotNo) (ticket : Byte), addr.toNat = 0x400 + 32 * k.val → ticket.toNat = v.toNat % 256 →
      (v.toNat / 256 % 4 = 1 → ∀ c ∈ [Instr.readRequest k ticket, .writeRequest k ticket,
        .moveRequest k ticket, .forgetRequest k ticket, .searchRequest k ticket, .reseatRequest k ticket,
        .retimeRequest k ticket, .limitsRequest k ticket, .driveRequest k ticket, .rearmRequest k ticket,
        .postUnknownKind k ticket], exec (.hostWrite addr v) s = exec c s) ∧
      (v.toNat / 256 % 4 = 2 → exec (.hostWrite addr v) s = exec (.withdraw k ticket) s) ∧
      (v.toNat / 256 % 4 = 0 → exec (.hostWrite addr v) s = exec (.askInvalidIntent k ticket false) s) ∧
      (v.toNat / 256 % 4 = 3 → exec (.hostWrite addr v) s = exec (.askInvalidIntent k ticket true) s)) ∧
    (∀ n : Name, addr.toNat = 0x101 + n.val → exec (.hostWrite addr v) s = exec (.acknowledgement n v) s) ∧
    (v.toNat % 2 = 1 → exec (.hostWrite 0x501#11 v) s = exec .runEntry s) ∧
    (v.toNat % 2 = 0 → exec (.hostWrite 0x501#11 v) s = exec .softHold s) ∧
    exec (.hostWrite 0x502#11 v) s = exec (.alertClear v) s ∧
    exec (.hostWrite 0x503#11 v) s = exec (.alertmaskWrite v) s) ∧
  (∀ (s : State) (stateCode : CouplingState → Nat) (entryCode : EntryState → Nat) (phaseCode : Phase → Nat)
    (flag : Bool → Nat) (word : Nat → Nat),
    [.dormant, .opened, .making, .powering, .discovering, .serving, .faulted].map stateCode =
      [0, 1, 2, 3, 4, 5, 6] →
    [.vacant, .offered, .held, .bound, .stale, .disputed, .retiring].map entryCode = [0, 1, 2, 3, 4, 5, 6] →
    [.free, .waiting, .onLine, .done].map phaseCode = [0, 1, 2, 3] →
    (flag true = 1 ∧ flag false = 0) → (∀ a, word a = (s.readWord (BitVec.ofNat 11 a)).toNat) →
    (∀ p : Params, p = s.port.params → (List.range 17).map word =
      [p.lineRate.toNat, p.settleMs.toNat, p.powerWaitMs.toNat, p.passRetryMs.toNat, p.rollMs.toNat,
        p.strikeLimit.toNat, p.keepRounds.toNat, p.sweepRounds.toNat, p.passAttempts.toNat,
        p.callRetries.toNat, p.requestWaitMs.toNat, p.ackMask.toNat, p.logicLimit.toNat,
        p.driveLimit.toNat, p.sumLimit.toNat, p.tripA.toNat, p.tripB.toNat]) ∧
    (∀ c : Fin 64, word (0x040 + 2 * c.val) =
        (s.port.classMap[c]).low.toNat + 256 * (s.port.classMap[c]).high.toNat ∧
      word (0x041 + 2 * c.val) = (s.port.classMap[c]).role.toNat) ∧
    (∀ n : Name, word (0x101 + n.val) = (s.port.seen[n]).toNat) ∧
    (∀ a, (0x011 ≤ a ∧ a ≤ 0x03F) ∨ (0x0D5 ≤ a ∧ a ≤ 0x0D7) ∨ a = 0x0DE ∨ a = 0x0DF ∨
        (0x0E7 ≤ a ∧ a ≤ 0x100) ∨ (0x13F ≤ a ∧ a ≤ 0x207) ∨ (0x3F8 ≤ a ∧ a ≤ 0x3FF) ∨
        (0x400 ≤ a ∧ a < 0x500 ∧ ((5 ≤ a % 32 ∧ a % 32 ≤ 7) ∨ 24 ≤ a % 32)) ∨
        (0x504 ≤ a ∧ a ≤ 0x7FF) → word a = 0) ∧
    (s.feed.trip.runLength ≤ 255 → s.feed.trip.readings.sum ≤ 8190 → s.feed.pedLogic ≤ 255 →
      s.feed.pedDrive ≤ 255 →
      word 0x0C0 = s.port.recGen.toNat ∧
      (∀ code, (s.cm.cause = .none → code = 0) → (s.cm.cause = .power → code = 1) →
        (s.cm.cause = .lineHeld → code = 2) →
        word 0x0C1 = stateCode s.cm.state + 16 * flag s.cm.shownFirst + 32 * flag s.cm.shownLast +
          64 * flag s.cm.partialMate + 256 * code) ∧
      word 0x0C2 = flag s.feed.logicOn + 2 * flag s.feed.driveOn + 4 * flag s.feed.latch +
        8 * flag s.feed.pedHigh ∧
      word 0x0C3 = s.feed.pedLogic ∧ word 0x0C4 = s.feed.pedDrive ∧
      (∀ code, (s.feed.trip.stage = .none → code = 0) → (s.feed.trip.stage = .a → code = 1) →
        (s.feed.trip.stage = .b → code = 2) →
        word 0x0C5 = code + 16 * flag s.feed.trip.causes.logic + 32 * flag s.feed.trip.causes.drive +
          64 * flag s.feed.trip.causes.sum + 256 * s.feed.trip.runLength) ∧
      (∀ r : Readings, r = s.feed.trip.readings → r.rawLogic ≤ 4095 → r.rawDrive ≤ 4095 →
        r.corrLogic ≤ 4095 → r.corrDrive ≤ 4095 →
        [word 0x0C6, word 0x0C7, word 0x0C8, word 0x0C9, word 0x0CA] =
          [r.rawLogic, r.rawDrive, r.corrLogic, r.corrDrive, r.sum])) ∧
    (s.walker.record.counts.inRange →
      word 0x0CB = s.walker.record.number.toNat ∧
      (s.walker.record.result = .none → word 0x0CC = 0) ∧
      (s.walker.record.result = .complete → word 0x0CC = 1) ∧
      (s.walker.record.result = .incomplete → word 0x0CC = 2) ∧
      [word 0x0CD, word 0x0CE, word 0x0CF, word 0x0D0, word 0x0D1, word 0x0D2, word 0x0D3, word 0x0D4] =
        [s.walker.record.counts.seeks, s.walker.record.counts.found, s.walker.record.counts.returned,
          s.walker.record.counts.reclaimed, s.walker.record.counts.phantom,
          s.walker.record.counts.unresolved, s.walker.record.counts.dropped,
          s.walker.record.counts.noRoom]) ∧
    (∀ r : Readings, r = s.feed.live → r.rawLogic ≤ 4095 → r.rawDrive ≤ 4095 → r.corrLogic ≤ 4095 →
      r.corrDrive ≤ 4095 → r.sum ≤ 8190 →
      [word 0x0D8, word 0x0D9, word 0x0DA, word 0x0DB, word 0x0DC] =
        [r.rawLogic, r.rawDrive, r.corrLogic, r.corrDrive, r.sum]) ∧
    word 0x0DD = s.roll.round.toNat ∧
    (∀ st, word (0x0E0 + entryCode st) =
      ((List.finRange 62).filter fun n : Name => decide ((s.entry n).state = st)).length) ∧
    (∀ (n : Name) (e : Entry) (a : Nat), e = s.entry n → a = 0x208 + 8 * n.val → e.keep ≤ 255 →
      e.strikes ≤ 15 →
      [word a, word (a + 1), word (a + 2), word (a + 3), word (a + 4), word (a + 5), word (a + 6),
          word (a + 7)] =
        [e.gen.toNat,
          entryCode e.state + 16 * flag e.sticky + 32 * flag e.conflict + 64 * flag e.outside +
            128 * flag e.owed + 256 * e.devstat.toNat,
          e.ident.toNat / 65536 / 65536, e.ident.toNat / 65536 % 65536, e.ident.toNat % 65536,
          e.cls.toNat + 256 * e.role.toNat, e.stamp.toNat, e.strikes + 256 * e.keep]) ∧
    (∀ (k : SlotNo) (t : Slot) (a : Nat), t = s.slot k → a = 0x400 + 32 * k.val →
      word a = t.ask.toNat ∧
      (∀ code, [Result.ok, .notRunning, .badRequest, .notCoupled, .noDevice, .notReady, .nameBusy,
          .nameTaken, .noAnswer, .garbled, .decoupled, .toolFault, .timedOut, .withdrawn,
          .wrongState][code]? = some t.result →
        word (a + 1) = t.ticket.toNat + 256 * phaseCode t.phase + 1024 * code) ∧
      word (a + 2) = t.kind.toNat + 256 * t.name.toNat ∧ word (a + 3) = t.argA.toNat ∧
      word (a + 4) = t.count.toNat ∧ (∀ j : Fin 16, word (a + 8 + j.val) = (t.data[j]).toNat)) ∧
    word 0x501 = flag s.port.run ∧ word 0x502 = s.port.alert.toNat ∧ word 0x503 = s.port.alertMask.toNat)

/-- R138. IDENT reads 0x2408 at all times, and a host write to it is dropped with ALERT.MISUSE. -/
def Obligations.IdentReadsAndDropsWrites : Prop :=
  ∀ (s : State), s.readWord 0x500#11 = 0x2408#16 ∧
    ∀ v, exec (.hostWrite 0x500#11 v) s = .next { s with
      port := { s.port with alert := s.port.alert ||| 32#7 } }

/-! ### Invariants that every step keeps -/

/-- Every step keeps the coupling monitor's invariant (R1 to R19). -/
def Obligations.StepKeepsMonitor : Prop :=
  ∀ s t : State, MonitorInv s → step s = .next t → MonitorInv t

/-- Every step keeps the feed supervisor's invariant: DRIVE never on without LOGIC or with the latch set, the trip
words and the limits in range (R20 to R34). -/
def Obligations.StepKeepsFeeds : Prop :=
  ∀ s t : State, FeedInv s → step s = .next t → FeedInv t

/-- Every step keeps the settings in range in RUN and equal to the values in force, and the values in force in range
at all times (R32, R130, R158 to R161). -/
def Obligations.StepKeepsSettings : Prop :=
  ∀ s t : State, step s = .next t →
    (SettingsInv s → SettingsInv t) ∧ (RangeInv s → RangeInv t)

/-- Every step leaves every GEN even, and keeps the directory's invariant: entries as R72 lets them be in their states,
no identity in two entries, the offer record fit for its entry (R72 to R76, R83, R94, R142). From the coupling-lost notice
on no entry is OFFERED, HELD, BOUND or DISPUTED until the coupling is DISCOVERING or SERVING again (R94), and no roll report
is taken until it is SERVING again (R90, R129). STRIKES stays
below STRIKE_LIMIT and KEEP within KEEP_ROUNDS (R72, R74, R130), where a report that is taken by its own command carries
values within the limits, as the roll caller's do (R126, R127). In the step in which an entry comes to owe a release its
name is in the release list, a name that joins the list is owed, and a name that leaves it is owed no longer, but for the
name a MOVE's RELEASE was sent to (R48, R76). -/
def Obligations.StepKeepsDirectory : Prop :=
  ∀ s t : State, step s = .next t → (GenInv s → GenInv t) ∧ (DirInv s → DirInv t) ∧
    (MonitorInv s → DirInv s → QuietInv s → QuietInv t) ∧
    (DirInv s → RangeInv s → LiveInv s →
      (∀ n k rest, s.pending = .rollReport n (.strike k) :: rest → k < s.roll.strikeLimit) →
      (∀ n k rest, s.pending = .rollReport n (.retentionStep k) :: rest →
        1 ≤ k ∧ k ≤ s.roll.keepRounds) → LiveInv t) ∧
    (DirInv s → ∀ n : Name,
      ((t.entry n).owed = true → (s.entry n).owed = false → n ∈ t.line.releases) ∧
      (n ∈ t.line.releases → n ∉ s.line.releases → (t.entry n).owed = true) ∧
      (n ∈ s.line.releases → n ∉ t.line.releases → (t.entry n).owed = false ∨
        ∃ by_, s.line.flight = .sending by_ (.release n)))

/-- Every step keeps the invariants of the line unit, the walker and the roll caller (R42, R47, R48, R50, R100, R107,
R111, R114, R122 to R124), a round is in progress exactly while names are due but for the step that takes the roll caller's
abandonment notice, which leaves the round to the coupling-lost notice (R124, R129; log 40), and every block stands idle
outside the coupling states in which it works once it has taken its coupling-lost notice: no feed is on, the line is inactive and counts no coupling as SERVING, no pass or sweep runs, the
roll period timer is stopped, no round is in progress and no roll is in hand (R4, R12, R22, R50, R51, R116, R121, R131,
R132). A ROLL that the roll caller has not in hand is neither started nor sent (R131). -/
def Obligations.StepKeepsLineSide : Prop :=
  ∀ s t : State, step s = .next t →
    (LineInv s → LineInv t) ∧ (WalkerInv s → WalkerInv t) ∧ (RollInv s → RollInv t) ∧
    ((∀ rest, s.pending ≠ .groupAbandoned .rollCaller :: rest) → RollInv s →
      (s.roll.inProgress = true → s.roll.due ≠ []) → t.roll.inProgress = true → t.roll.due ≠ []) ∧
    (MonitorInv s → RollInv s → IdleInv s → IdleInv t) ∧
    (∀ c, s.roll.hand = none → s.line.flight ≠ .listening .rollCaller c → t.line.flight ≠ .listening .rollCaller c) ∧
    (∀ c, s.roll.hand = none → t.roll.hand = none → s.line.flight ≠ .sending .rollCaller c →
      t.line.flight ≠ .sending .rollCaller c)

/-- Every step keeps the request board's invariant: the post-order list holds exactly the WAITING slots, each once, with
their wait timers running (R144, R147, R151, R154). -/
def Obligations.StepKeepsBoard : Prop :=
  ∀ s t : State, BoardInv s → step s = .next t → BoardInv t
end

