-- ==== Sys2Proof/Laws/State.lean ====
section
/-! SUPPORT. One lemma for each field and each named update of State, so that no proof unfolds a record update. -/

namespace Sys2Proof.Machine

@[simp] theorem State.raise_cm (a : Alert) (s : State) : (s.raise a).cm = s.cm := rfl
@[simp] theorem State.raise_feed (a : Alert) (s : State) : (s.raise a).feed = s.feed := rfl
@[simp] theorem State.raise_line (a : Alert) (s : State) : (s.raise a).line = s.line := rfl
@[simp] theorem State.raise_walker (a : Alert) (s : State) : (s.raise a).walker = s.walker := rfl
@[simp] theorem State.raise_dir (a : Alert) (s : State) : (s.raise a).dir = s.dir := rfl
@[simp] theorem State.raise_roll (a : Alert) (s : State) : (s.raise a).roll = s.roll := rfl
@[simp] theorem State.raise_req (a : Alert) (s : State) : (s.raise a).req = s.req := rfl
@[simp] theorem State.raise_port (a : Alert) (s : State) :
    (s.raise a).port = { s.port with alert := s.port.alert ||| a.mask } := rfl
@[simp] theorem State.raise_callRetries (a : Alert) (s : State) : (s.raise a).callRetries = s.callRetries := rfl
@[simp] theorem State.raise_given (a : Alert) (s : State) : (s.raise a).given = s.given := rfl
@[simp] theorem State.raise_pending (a : Alert) (s : State) : (s.raise a).pending = s.pending := rfl

@[simp] theorem State.give_cm (l : List Instr) (s : State) : (s.give l).cm = s.cm := rfl
@[simp] theorem State.give_feed (l : List Instr) (s : State) : (s.give l).feed = s.feed := rfl
@[simp] theorem State.give_line (l : List Instr) (s : State) : (s.give l).line = s.line := rfl
@[simp] theorem State.give_walker (l : List Instr) (s : State) : (s.give l).walker = s.walker := rfl
@[simp] theorem State.give_dir (l : List Instr) (s : State) : (s.give l).dir = s.dir := rfl
@[simp] theorem State.give_roll (l : List Instr) (s : State) : (s.give l).roll = s.roll := rfl
@[simp] theorem State.give_req (l : List Instr) (s : State) : (s.give l).req = s.req := rfl
@[simp] theorem State.give_port (l : List Instr) (s : State) : (s.give l).port = s.port := rfl
@[simp] theorem State.give_callRetries (l : List Instr) (s : State) : (s.give l).callRetries = s.callRetries := rfl
@[simp] theorem State.give_given (l : List Instr) (s : State) :
    (s.give l).given = s.given ++ l := rfl
@[simp] theorem State.give_pending (l : List Instr) (s : State) : (s.give l).pending = s.pending := rfl

@[simp] theorem State.take_cm (c : Instr) (s : State) : (s.take c).cm = s.cm := rfl
@[simp] theorem State.take_feed (c : Instr) (s : State) : (s.take c).feed = s.feed := rfl
@[simp] theorem State.take_line (c : Instr) (s : State) : (s.take c).line = s.line := rfl
@[simp] theorem State.take_walker (c : Instr) (s : State) : (s.take c).walker = s.walker := rfl
@[simp] theorem State.take_dir (c : Instr) (s : State) : (s.take c).dir = s.dir := rfl
@[simp] theorem State.take_roll (c : Instr) (s : State) : (s.take c).roll = s.roll := rfl
@[simp] theorem State.take_req (c : Instr) (s : State) : (s.take c).req = s.req := rfl
@[simp] theorem State.take_port (c : Instr) (s : State) : (s.take c).port = s.port := rfl
@[simp] theorem State.take_callRetries (c : Instr) (s : State) : (s.take c).callRetries = s.callRetries := rfl
@[simp] theorem State.take_given (c : Instr) (s : State) :
    (s.take c).given = s.given.erase c := rfl
@[simp] theorem State.take_pending (c : Instr) (s : State) : (s.take c).pending = s.pending := rfl

@[simp] theorem State.putEntry_cm (n : Name) (e : Entry) (s : State) : (s.putEntry n e).cm = s.cm := rfl
@[simp] theorem State.putEntry_feed (n : Name) (e : Entry) (s : State) : (s.putEntry n e).feed = s.feed := rfl
@[simp] theorem State.putEntry_line (n : Name) (e : Entry) (s : State) : (s.putEntry n e).line = s.line := rfl
@[simp] theorem State.putEntry_walker (n : Name) (e : Entry) (s : State) : (s.putEntry n e).walker = s.walker := rfl
@[simp] theorem State.putEntry_dir (n : Name) (e : Entry) (s : State) :
    (s.putEntry n e).dir = { s.dir with entries := s.dir.entries.set n.val e n.isLt } := rfl
@[simp] theorem State.putEntry_roll (n : Name) (e : Entry) (s : State) : (s.putEntry n e).roll = s.roll := rfl
@[simp] theorem State.putEntry_req (n : Name) (e : Entry) (s : State) : (s.putEntry n e).req = s.req := rfl
@[simp] theorem State.putEntry_port (n : Name) (e : Entry) (s : State) : (s.putEntry n e).port = s.port := rfl
@[simp] theorem State.putEntry_callRetries (n : Name) (e : Entry) (s : State) : (s.putEntry n e).callRetries = s.callRetries := rfl
@[simp] theorem State.putEntry_given (n : Name) (e : Entry) (s : State) : (s.putEntry n e).given = s.given := rfl
@[simp] theorem State.putEntry_pending (n : Name) (e : Entry) (s : State) : (s.putEntry n e).pending = s.pending := rfl

@[simp] theorem State.stableEntry_cm (n : Name) (e : Entry) (s : State) : (s.stableEntry n e).cm = s.cm := rfl
@[simp] theorem State.stableEntry_feed (n : Name) (e : Entry) (s : State) : (s.stableEntry n e).feed = s.feed := rfl
@[simp] theorem State.stableEntry_line (n : Name) (e : Entry) (s : State) : (s.stableEntry n e).line = s.line := rfl
@[simp] theorem State.stableEntry_walker (n : Name) (e : Entry) (s : State) : (s.stableEntry n e).walker = s.walker := rfl
@[simp] theorem State.stableEntry_dir (n : Name) (e : Entry) (s : State) :
    (s.stableEntry n e).dir = (s.putEntry n { e with gen := genAfter (s.entry n).gen }).dir := rfl
@[simp] theorem State.stableEntry_roll (n : Name) (e : Entry) (s : State) : (s.stableEntry n e).roll = s.roll := rfl
@[simp] theorem State.stableEntry_req (n : Name) (e : Entry) (s : State) : (s.stableEntry n e).req = s.req := rfl
@[simp] theorem State.stableEntry_port (n : Name) (e : Entry) (s : State) :
    (s.stableEntry n e).port = (s.raise .directory).port := rfl
@[simp] theorem State.stableEntry_callRetries (n : Name) (e : Entry) (s : State) : (s.stableEntry n e).callRetries = s.callRetries := rfl
@[simp] theorem State.stableEntry_given (n : Name) (e : Entry) (s : State) : (s.stableEntry n e).given = s.given := rfl
@[simp] theorem State.stableEntry_pending (n : Name) (e : Entry) (s : State) : (s.stableEntry n e).pending = s.pending := rfl

@[simp] theorem State.liveEntry_cm (n : Name) (st : Word) (k j : Nat) (s : State) : (s.liveEntry n st k j).cm = s.cm := rfl
@[simp] theorem State.liveEntry_feed (n : Name) (st : Word) (k j : Nat) (s : State) : (s.liveEntry n st k j).feed = s.feed := rfl
@[simp] theorem State.liveEntry_line (n : Name) (st : Word) (k j : Nat) (s : State) : (s.liveEntry n st k j).line = s.line := rfl
@[simp] theorem State.liveEntry_walker (n : Name) (st : Word) (k j : Nat) (s : State) : (s.liveEntry n st k j).walker = s.walker := rfl
@[simp] theorem State.liveEntry_dir (n : Name) (st : Word) (k j : Nat) (s : State) :
    (s.liveEntry n st k j).dir = (s.putEntry n { s.entry n with stamp := st, strikes := k, keep := j }).dir := rfl
@[simp] theorem State.liveEntry_roll (n : Name) (st : Word) (k j : Nat) (s : State) : (s.liveEntry n st k j).roll = s.roll := rfl
@[simp] theorem State.liveEntry_req (n : Name) (st : Word) (k j : Nat) (s : State) : (s.liveEntry n st k j).req = s.req := rfl
@[simp] theorem State.liveEntry_port (n : Name) (st : Word) (k j : Nat) (s : State) : (s.liveEntry n st k j).port = s.port := rfl
@[simp] theorem State.liveEntry_callRetries (n : Name) (st : Word) (k j : Nat) (s : State) : (s.liveEntry n st k j).callRetries = s.callRetries := rfl
@[simp] theorem State.liveEntry_given (n : Name) (st : Word) (k j : Nat) (s : State) : (s.liveEntry n st k j).given = s.given := rfl
@[simp] theorem State.liveEntry_pending (n : Name) (st : Word) (k j : Nat) (s : State) : (s.liveEntry n st k j).pending = s.pending := rfl

@[simp] theorem State.putSlot_cm (k : SlotNo) (t : Slot) (s : State) : (s.putSlot k t).cm = s.cm := rfl
@[simp] theorem State.putSlot_feed (k : SlotNo) (t : Slot) (s : State) : (s.putSlot k t).feed = s.feed := rfl
@[simp] theorem State.putSlot_line (k : SlotNo) (t : Slot) (s : State) : (s.putSlot k t).line = s.line := rfl
@[simp] theorem State.putSlot_walker (k : SlotNo) (t : Slot) (s : State) : (s.putSlot k t).walker = s.walker := rfl
@[simp] theorem State.putSlot_dir (k : SlotNo) (t : Slot) (s : State) : (s.putSlot k t).dir = s.dir := rfl
@[simp] theorem State.putSlot_roll (k : SlotNo) (t : Slot) (s : State) : (s.putSlot k t).roll = s.roll := rfl
@[simp] theorem State.putSlot_req (k : SlotNo) (t : Slot) (s : State) :
    (s.putSlot k t).req = { s.req with slots := s.req.slots.set k.val t k.isLt } := rfl
@[simp] theorem State.putSlot_port (k : SlotNo) (t : Slot) (s : State) : (s.putSlot k t).port = s.port := rfl
@[simp] theorem State.putSlot_callRetries (k : SlotNo) (t : Slot) (s : State) : (s.putSlot k t).callRetries = s.callRetries := rfl
@[simp] theorem State.putSlot_given (k : SlotNo) (t : Slot) (s : State) : (s.putSlot k t).given = s.given := rfl
@[simp] theorem State.putSlot_pending (k : SlotNo) (t : Slot) (s : State) : (s.putSlot k t).pending = s.pending := rfl

@[simp] theorem State.recordChange_cm (a : Alert) (s : State) : (s.recordChange a).cm = s.cm := rfl
@[simp] theorem State.recordChange_feed (a : Alert) (s : State) : (s.recordChange a).feed = s.feed := rfl
@[simp] theorem State.recordChange_line (a : Alert) (s : State) : (s.recordChange a).line = s.line := rfl
@[simp] theorem State.recordChange_walker (a : Alert) (s : State) : (s.recordChange a).walker = s.walker := rfl
@[simp] theorem State.recordChange_dir (a : Alert) (s : State) : (s.recordChange a).dir = s.dir := rfl
@[simp] theorem State.recordChange_roll (a : Alert) (s : State) : (s.recordChange a).roll = s.roll := rfl
@[simp] theorem State.recordChange_req (a : Alert) (s : State) : (s.recordChange a).req = s.req := rfl
@[simp] theorem State.recordChange_port (a : Alert) (s : State) :
    (s.recordChange a).port = { s.port with recGen := genAfter s.port.recGen, alert := s.port.alert ||| a.mask } := rfl
@[simp] theorem State.recordChange_callRetries (a : Alert) (s : State) : (s.recordChange a).callRetries = s.callRetries := rfl
@[simp] theorem State.recordChange_given (a : Alert) (s : State) : (s.recordChange a).given = s.given := rfl
@[simp] theorem State.recordChange_pending (a : Alert) (s : State) : (s.recordChange a).pending = s.pending := rfl

@[simp] theorem State.joinRelease_cm (n : Name) (s : State) : (s.joinRelease n).cm = s.cm := rfl
@[simp] theorem State.joinRelease_feed (n : Name) (s : State) : (s.joinRelease n).feed = s.feed := rfl
@[simp] theorem State.joinRelease_line (n : Name) (s : State) :
    (s.joinRelease n).line = { s.line with releases := insertName n s.line.releases } := rfl
@[simp] theorem State.joinRelease_walker (n : Name) (s : State) : (s.joinRelease n).walker = s.walker := rfl
@[simp] theorem State.joinRelease_dir (n : Name) (s : State) : (s.joinRelease n).dir = s.dir := rfl
@[simp] theorem State.joinRelease_roll (n : Name) (s : State) : (s.joinRelease n).roll = s.roll := rfl
@[simp] theorem State.joinRelease_req (n : Name) (s : State) : (s.joinRelease n).req = s.req := rfl
@[simp] theorem State.joinRelease_port (n : Name) (s : State) : (s.joinRelease n).port = s.port := rfl
@[simp] theorem State.joinRelease_callRetries (n : Name) (s : State) : (s.joinRelease n).callRetries = s.callRetries := rfl
@[simp] theorem State.joinRelease_given (n : Name) (s : State) : (s.joinRelease n).given = s.given := rfl
@[simp] theorem State.joinRelease_pending (n : Name) (s : State) : (s.joinRelease n).pending = s.pending := rfl

@[simp] theorem State.leaveRelease_cm (n : Name) (s : State) : (s.leaveRelease n).cm = s.cm := rfl
@[simp] theorem State.leaveRelease_feed (n : Name) (s : State) : (s.leaveRelease n).feed = s.feed := rfl
@[simp] theorem State.leaveRelease_line (n : Name) (s : State) :
    (s.leaveRelease n).line = { s.line with releases := s.line.releases.filter (fun m => m ≠ n) } := rfl
@[simp] theorem State.leaveRelease_walker (n : Name) (s : State) : (s.leaveRelease n).walker = s.walker := rfl
@[simp] theorem State.leaveRelease_dir (n : Name) (s : State) : (s.leaveRelease n).dir = s.dir := rfl
@[simp] theorem State.leaveRelease_roll (n : Name) (s : State) : (s.leaveRelease n).roll = s.roll := rfl
@[simp] theorem State.leaveRelease_req (n : Name) (s : State) : (s.leaveRelease n).req = s.req := rfl
@[simp] theorem State.leaveRelease_port (n : Name) (s : State) : (s.leaveRelease n).port = s.port := rfl
@[simp] theorem State.leaveRelease_callRetries (n : Name) (s : State) : (s.leaveRelease n).callRetries = s.callRetries := rfl
@[simp] theorem State.leaveRelease_given (n : Name) (s : State) : (s.leaveRelease n).given = s.given := rfl
@[simp] theorem State.leaveRelease_pending (n : Name) (s : State) : (s.leaveRelease n).pending = s.pending := rfl

@[simp] theorem State.recordOffer_cm (n : Name) (i : Identity) (k : OfferKind) (p : Entry) (s : State) : (s.recordOffer n i k p).cm = s.cm := rfl
@[simp] theorem State.recordOffer_feed (n : Name) (i : Identity) (k : OfferKind) (p : Entry) (s : State) : (s.recordOffer n i k p).feed = s.feed := rfl
@[simp] theorem State.recordOffer_line (n : Name) (i : Identity) (k : OfferKind) (p : Entry) (s : State) : (s.recordOffer n i k p).line = s.line := rfl
@[simp] theorem State.recordOffer_walker (n : Name) (i : Identity) (k : OfferKind) (p : Entry) (s : State) : (s.recordOffer n i k p).walker = s.walker := rfl
@[simp] theorem State.recordOffer_dir (n : Name) (i : Identity) (k : OfferKind) (p : Entry) (s : State) :
    (s.recordOffer n i k p).dir = { s.dir with offer := some ⟨n, i, k, p⟩ } := rfl
@[simp] theorem State.recordOffer_roll (n : Name) (i : Identity) (k : OfferKind) (p : Entry) (s : State) : (s.recordOffer n i k p).roll = s.roll := rfl
@[simp] theorem State.recordOffer_req (n : Name) (i : Identity) (k : OfferKind) (p : Entry) (s : State) : (s.recordOffer n i k p).req = s.req := rfl
@[simp] theorem State.recordOffer_port (n : Name) (i : Identity) (k : OfferKind) (p : Entry) (s : State) : (s.recordOffer n i k p).port = s.port := rfl
@[simp] theorem State.recordOffer_callRetries (n : Name) (i : Identity) (k : OfferKind) (p : Entry) (s : State) : (s.recordOffer n i k p).callRetries = s.callRetries := rfl
@[simp] theorem State.recordOffer_given (n : Name) (i : Identity) (k : OfferKind) (p : Entry) (s : State) : (s.recordOffer n i k p).given = s.given := rfl
@[simp] theorem State.recordOffer_pending (n : Name) (i : Identity) (k : OfferKind) (p : Entry) (s : State) : (s.recordOffer n i k p).pending = s.pending := rfl

@[simp] theorem State.clearOffer_cm (s : State) : (s.clearOffer).cm = s.cm := rfl
@[simp] theorem State.clearOffer_feed (s : State) : (s.clearOffer).feed = s.feed := rfl
@[simp] theorem State.clearOffer_line (s : State) : (s.clearOffer).line = s.line := rfl
@[simp] theorem State.clearOffer_walker (s : State) : (s.clearOffer).walker = s.walker := rfl
@[simp] theorem State.clearOffer_dir (s : State) :
    (s.clearOffer).dir = { s.dir with offer := none } := rfl
@[simp] theorem State.clearOffer_roll (s : State) : (s.clearOffer).roll = s.roll := rfl
@[simp] theorem State.clearOffer_req (s : State) : (s.clearOffer).req = s.req := rfl
@[simp] theorem State.clearOffer_port (s : State) : (s.clearOffer).port = s.port := rfl
@[simp] theorem State.clearOffer_callRetries (s : State) : (s.clearOffer).callRetries = s.callRetries := rfl
@[simp] theorem State.clearOffer_given (s : State) : (s.clearOffer).given = s.given := rfl
@[simp] theorem State.clearOffer_pending (s : State) : (s.clearOffer).pending = s.pending := rfl

@[simp] theorem State.setFlight_cm (f : Flight) (s : State) : (s.setFlight f).cm = s.cm := rfl
@[simp] theorem State.setFlight_feed (f : Flight) (s : State) : (s.setFlight f).feed = s.feed := rfl
@[simp] theorem State.setFlight_line (f : Flight) (s : State) :
    (s.setFlight f).line = { s.line with flight := f } := rfl
@[simp] theorem State.setFlight_walker (f : Flight) (s : State) : (s.setFlight f).walker = s.walker := rfl
@[simp] theorem State.setFlight_dir (f : Flight) (s : State) : (s.setFlight f).dir = s.dir := rfl
@[simp] theorem State.setFlight_roll (f : Flight) (s : State) : (s.setFlight f).roll = s.roll := rfl
@[simp] theorem State.setFlight_req (f : Flight) (s : State) : (s.setFlight f).req = s.req := rfl
@[simp] theorem State.setFlight_port (f : Flight) (s : State) : (s.setFlight f).port = s.port := rfl
@[simp] theorem State.setFlight_callRetries (f : Flight) (s : State) : (s.setFlight f).callRetries = s.callRetries := rfl
@[simp] theorem State.setFlight_given (f : Flight) (s : State) : (s.setFlight f).given = s.given := rfl
@[simp] theorem State.setFlight_pending (f : Flight) (s : State) : (s.setFlight f).pending = s.pending := rfl

@[simp] theorem State.freeLine_cm (s : State) : (s.freeLine).cm = s.cm := rfl
@[simp] theorem State.freeLine_feed (s : State) : (s.freeLine).feed = s.feed := rfl
@[simp] theorem State.freeLine_line (s : State) :
    (s.freeLine).line = { s.line with flight := .free } := rfl
@[simp] theorem State.freeLine_walker (s : State) : (s.freeLine).walker = s.walker := rfl
@[simp] theorem State.freeLine_dir (s : State) : (s.freeLine).dir = s.dir := rfl
@[simp] theorem State.freeLine_roll (s : State) : (s.freeLine).roll = s.roll := rfl
@[simp] theorem State.freeLine_req (s : State) : (s.freeLine).req = s.req := rfl
@[simp] theorem State.freeLine_port (s : State) : (s.freeLine).port = s.port := rfl
@[simp] theorem State.freeLine_callRetries (s : State) : (s.freeLine).callRetries = s.callRetries := rfl
@[simp] theorem State.freeLine_given (s : State) : (s.freeLine).given = s.given := rfl
@[simp] theorem State.freeLine_pending (s : State) : (s.freeLine).pending = s.pending := rfl

@[simp] theorem State.askAgain_cm (b : Claimant) (c : Call) (s : State) : (s.askAgain b c).cm = s.cm := rfl
@[simp] theorem State.askAgain_feed (b : Claimant) (c : Call) (s : State) : (s.askAgain b c).feed = s.feed := rfl
@[simp] theorem State.askAgain_line (b : Claimant) (c : Call) (s : State) :
    (s.askAgain b c).line = { s.line with flight := .gap b c } := rfl
@[simp] theorem State.askAgain_walker (b : Claimant) (c : Call) (s : State) : (s.askAgain b c).walker = s.walker := rfl
@[simp] theorem State.askAgain_dir (b : Claimant) (c : Call) (s : State) : (s.askAgain b c).dir = s.dir := rfl
@[simp] theorem State.askAgain_roll (b : Claimant) (c : Call) (s : State) : (s.askAgain b c).roll = s.roll := rfl
@[simp] theorem State.askAgain_req (b : Claimant) (c : Call) (s : State) : (s.askAgain b c).req = s.req := rfl
@[simp] theorem State.askAgain_port (b : Claimant) (c : Call) (s : State) : (s.askAgain b c).port = s.port := rfl
@[simp] theorem State.askAgain_callRetries (b : Claimant) (c : Call) (s : State) : (s.askAgain b c).callRetries = s.callRetries := rfl
@[simp] theorem State.askAgain_given (b : Claimant) (c : Call) (s : State) : (s.askAgain b c).given = s.given := rfl
@[simp] theorem State.askAgain_pending (b : Claimant) (c : Call) (s : State) : (s.askAgain b c).pending = s.pending := rfl

@[simp] theorem State.storeAsk_cm (k : SlotNo) (w : Word) (s : State) : (s.storeAsk k w).cm = s.cm := rfl
@[simp] theorem State.storeAsk_feed (k : SlotNo) (w : Word) (s : State) : (s.storeAsk k w).feed = s.feed := rfl
@[simp] theorem State.storeAsk_line (k : SlotNo) (w : Word) (s : State) : (s.storeAsk k w).line = s.line := rfl
@[simp] theorem State.storeAsk_walker (k : SlotNo) (w : Word) (s : State) : (s.storeAsk k w).walker = s.walker := rfl
@[simp] theorem State.storeAsk_dir (k : SlotNo) (w : Word) (s : State) : (s.storeAsk k w).dir = s.dir := rfl
@[simp] theorem State.storeAsk_roll (k : SlotNo) (w : Word) (s : State) : (s.storeAsk k w).roll = s.roll := rfl
@[simp] theorem State.storeAsk_req (k : SlotNo) (w : Word) (s : State) :
    (s.storeAsk k w).req = (s.putSlot k { s.slot k with ask := w &&& 0x03FF#16 }).req := rfl
@[simp] theorem State.storeAsk_port (k : SlotNo) (w : Word) (s : State) : (s.storeAsk k w).port = s.port := rfl
@[simp] theorem State.storeAsk_callRetries (k : SlotNo) (w : Word) (s : State) : (s.storeAsk k w).callRetries = s.callRetries := rfl
@[simp] theorem State.storeAsk_given (k : SlotNo) (w : Word) (s : State) : (s.storeAsk k w).given = s.given := rfl
@[simp] theorem State.storeAsk_pending (k : SlotNo) (w : Word) (s : State) : (s.storeAsk k w).pending = s.pending := rfl

@[simp] theorem State.lineStandDown_cm (s : State) : (s.lineStandDown).cm = s.cm := rfl
@[simp] theorem State.lineStandDown_feed (s : State) : (s.lineStandDown).feed = s.feed := rfl
@[simp] theorem State.lineStandDown_line (s : State) :
    (s.lineStandDown).line = { s.line with
      active := false, serving := false, clearOwed := false
      heldRunning := false, heldCount := 0, flight := .free } := rfl
@[simp] theorem State.lineStandDown_walker (s : State) : (s.lineStandDown).walker = s.walker := rfl
@[simp] theorem State.lineStandDown_dir (s : State) : (s.lineStandDown).dir = s.dir := rfl
@[simp] theorem State.lineStandDown_roll (s : State) : (s.lineStandDown).roll = s.roll := rfl
@[simp] theorem State.lineStandDown_req (s : State) : (s.lineStandDown).req = s.req := rfl
@[simp] theorem State.lineStandDown_port (s : State) : (s.lineStandDown).port = s.port := rfl
@[simp] theorem State.lineStandDown_callRetries (s : State) : (s.lineStandDown).callRetries = s.callRetries := rfl
@[simp] theorem State.lineStandDown_pending (s : State) : (s.lineStandDown).pending = s.pending := rfl

@[simp] theorem State.setMonitor_cm (c : CouplingMonitor) (s : State) :
    (s.setMonitor c).cm = c := by
  simp only [State.setMonitor, apply_ite State.cm, State.raise, State.recordChange, ite_self]
@[simp] theorem State.setMonitor_feed (c : CouplingMonitor) (s : State) :
    (s.setMonitor c).feed = s.feed := by
  simp only [State.setMonitor, apply_ite State.feed, State.raise, State.recordChange, ite_self]
@[simp] theorem State.setMonitor_line (c : CouplingMonitor) (s : State) :
    (s.setMonitor c).line = s.line := by
  simp only [State.setMonitor, apply_ite State.line, State.raise, State.recordChange, ite_self]
@[simp] theorem State.setMonitor_walker (c : CouplingMonitor) (s : State) :
    (s.setMonitor c).walker = s.walker := by
  simp only [State.setMonitor, apply_ite State.walker, State.raise, State.recordChange, ite_self]
@[simp] theorem State.setMonitor_dir (c : CouplingMonitor) (s : State) :
    (s.setMonitor c).dir = s.dir := by
  simp only [State.setMonitor, apply_ite State.dir, State.raise, State.recordChange, ite_self]
@[simp] theorem State.setMonitor_roll (c : CouplingMonitor) (s : State) :
    (s.setMonitor c).roll = s.roll := by
  simp only [State.setMonitor, apply_ite State.roll, State.raise, State.recordChange, ite_self]
@[simp] theorem State.setMonitor_req (c : CouplingMonitor) (s : State) :
    (s.setMonitor c).req = s.req := by
  simp only [State.setMonitor, apply_ite State.req, State.raise, State.recordChange, ite_self]
@[simp] theorem State.setMonitor_callRetries (c : CouplingMonitor) (s : State) :
    (s.setMonitor c).callRetries = s.callRetries := by
  simp only [State.setMonitor, apply_ite State.callRetries, State.raise, State.recordChange, ite_self]
@[simp] theorem State.setMonitor_given (c : CouplingMonitor) (s : State) :
    (s.setMonitor c).given = s.given := by
  simp only [State.setMonitor, apply_ite State.given, State.raise, State.recordChange, ite_self]
@[simp] theorem State.setMonitor_pending (c : CouplingMonitor) (s : State) :
    (s.setMonitor c).pending = s.pending := by
  simp only [State.setMonitor, apply_ite State.pending, State.raise, State.recordChange, ite_self]

@[simp] theorem State.setFeed_cm (a : Alert) (f : FeedSupervisor) (s : State) :
    (s.setFeed a f).cm = s.cm := by
  simp only [State.setFeed, apply_ite State.cm, State.raise, State.recordChange, ite_self]
@[simp] theorem State.setFeed_feed (a : Alert) (f : FeedSupervisor) (s : State) :
    (s.setFeed a f).feed = f := by
  simp only [State.setFeed, apply_ite State.feed, State.raise, State.recordChange, ite_self]
@[simp] theorem State.setFeed_line (a : Alert) (f : FeedSupervisor) (s : State) :
    (s.setFeed a f).line = s.line := by
  simp only [State.setFeed, apply_ite State.line, State.raise, State.recordChange, ite_self]
@[simp] theorem State.setFeed_walker (a : Alert) (f : FeedSupervisor) (s : State) :
    (s.setFeed a f).walker = s.walker := by
  simp only [State.setFeed, apply_ite State.walker, State.raise, State.recordChange, ite_self]
@[simp] theorem State.setFeed_dir (a : Alert) (f : FeedSupervisor) (s : State) :
    (s.setFeed a f).dir = s.dir := by
  simp only [State.setFeed, apply_ite State.dir, State.raise, State.recordChange, ite_self]
@[simp] theorem State.setFeed_roll (a : Alert) (f : FeedSupervisor) (s : State) :
    (s.setFeed a f).roll = s.roll := by
  simp only [State.setFeed, apply_ite State.roll, State.raise, State.recordChange, ite_self]
@[simp] theorem State.setFeed_req (a : Alert) (f : FeedSupervisor) (s : State) :
    (s.setFeed a f).req = s.req := by
  simp only [State.setFeed, apply_ite State.req, State.raise, State.recordChange, ite_self]
@[simp] theorem State.setFeed_callRetries (a : Alert) (f : FeedSupervisor) (s : State) :
    (s.setFeed a f).callRetries = s.callRetries := by
  simp only [State.setFeed, apply_ite State.callRetries, State.raise, State.recordChange, ite_self]
@[simp] theorem State.setFeed_given (a : Alert) (f : FeedSupervisor) (s : State) :
    (s.setFeed a f).given = s.given := by
  simp only [State.setFeed, apply_ite State.given, State.raise, State.recordChange, ite_self]
@[simp] theorem State.setFeed_pending (a : Alert) (f : FeedSupervisor) (s : State) :
    (s.setFeed a f).pending = s.pending := by
  simp only [State.setFeed, apply_ite State.pending, State.raise, State.recordChange, ite_self]

@[simp] theorem State.stableAll_cm (f : Name → Entry → Option Entry) (s : State) :
    (s.stableAll f).cm = s.cm := by
  simp only [State.stableAll, apply_ite State.cm, State.raise, ite_self]
@[simp] theorem State.stableAll_feed (f : Name → Entry → Option Entry) (s : State) :
    (s.stableAll f).feed = s.feed := by
  simp only [State.stableAll, apply_ite State.feed, State.raise, ite_self]
@[simp] theorem State.stableAll_line (f : Name → Entry → Option Entry) (s : State) :
    (s.stableAll f).line = s.line := by
  simp only [State.stableAll, apply_ite State.line, State.raise, ite_self]
@[simp] theorem State.stableAll_walker (f : Name → Entry → Option Entry) (s : State) :
    (s.stableAll f).walker = s.walker := by
  simp only [State.stableAll, apply_ite State.walker, State.raise, ite_self]
@[simp] theorem State.stableAll_roll (f : Name → Entry → Option Entry) (s : State) :
    (s.stableAll f).roll = s.roll := by
  simp only [State.stableAll, apply_ite State.roll, State.raise, ite_self]
@[simp] theorem State.stableAll_req (f : Name → Entry → Option Entry) (s : State) :
    (s.stableAll f).req = s.req := by
  simp only [State.stableAll, apply_ite State.req, State.raise, ite_self]
@[simp] theorem State.stableAll_callRetries (f : Name → Entry → Option Entry) (s : State) :
    (s.stableAll f).callRetries = s.callRetries := by
  simp only [State.stableAll, apply_ite State.callRetries, State.raise, ite_self]
@[simp] theorem State.stableAll_given (f : Name → Entry → Option Entry) (s : State) :
    (s.stableAll f).given = s.given := by
  simp only [State.stableAll, apply_ite State.given, State.raise, ite_self]
@[simp] theorem State.stableAll_pending (f : Name → Entry → Option Entry) (s : State) :
    (s.stableAll f).pending = s.pending := by
  simp only [State.stableAll, apply_ite State.pending, State.raise, ite_self]

@[simp] theorem State.endSlots_cm (f : Slot → Slot) (s : State) :
    (s.endSlots f).cm = s.cm := by
  simp only [State.endSlots, apply_ite State.cm, State.raise, ite_self]
@[simp] theorem State.endSlots_feed (f : Slot → Slot) (s : State) :
    (s.endSlots f).feed = s.feed := by
  simp only [State.endSlots, apply_ite State.feed, State.raise, ite_self]
@[simp] theorem State.endSlots_line (f : Slot → Slot) (s : State) :
    (s.endSlots f).line = s.line := by
  simp only [State.endSlots, apply_ite State.line, State.raise, ite_self]
@[simp] theorem State.endSlots_walker (f : Slot → Slot) (s : State) :
    (s.endSlots f).walker = s.walker := by
  simp only [State.endSlots, apply_ite State.walker, State.raise, ite_self]
@[simp] theorem State.endSlots_dir (f : Slot → Slot) (s : State) :
    (s.endSlots f).dir = s.dir := by
  simp only [State.endSlots, apply_ite State.dir, State.raise, ite_self]
@[simp] theorem State.endSlots_roll (f : Slot → Slot) (s : State) :
    (s.endSlots f).roll = s.roll := by
  simp only [State.endSlots, apply_ite State.roll, State.raise, ite_self]
@[simp] theorem State.endSlots_req (f : Slot → Slot) (s : State) :
    (s.endSlots f).req = { s.req with slots := Vector.ofFn fun k => f (s.slot k) } := by
  simp only [State.endSlots, apply_ite State.req, State.raise, ite_self]
@[simp] theorem State.endSlots_callRetries (f : Slot → Slot) (s : State) :
    (s.endSlots f).callRetries = s.callRetries := by
  simp only [State.endSlots, apply_ite State.callRetries, State.raise, ite_self]
@[simp] theorem State.endSlots_given (f : Slot → Slot) (s : State) :
    (s.endSlots f).given = s.given := by
  simp only [State.endSlots, apply_ite State.given, State.raise, ite_self]
@[simp] theorem State.endSlots_pending (f : Slot → Slot) (s : State) :
    (s.endSlots f).pending = s.pending := by
  simp only [State.endSlots, apply_ite State.pending, State.raise, ite_self]

@[simp] theorem State.completeRequest_cm (k : SlotNo) (r : Result) (ws : List Word) (s : State) :
    (s.completeRequest k r ws).cm = s.cm := rfl
@[simp] theorem State.completeRequest_feed (k : SlotNo) (r : Result) (ws : List Word) (s : State) :
    (s.completeRequest k r ws).feed = s.feed := rfl
@[simp] theorem State.completeRequest_line (k : SlotNo) (r : Result) (ws : List Word) (s : State) :
    (s.completeRequest k r ws).line = s.line := rfl
@[simp] theorem State.completeRequest_walker (k : SlotNo) (r : Result) (ws : List Word) (s : State) :
    (s.completeRequest k r ws).walker = s.walker := rfl
@[simp] theorem State.completeRequest_dir (k : SlotNo) (r : Result) (ws : List Word) (s : State) :
    (s.completeRequest k r ws).dir = s.dir := rfl
@[simp] theorem State.completeRequest_roll (k : SlotNo) (r : Result) (ws : List Word) (s : State) :
    (s.completeRequest k r ws).roll = s.roll := rfl
@[simp] theorem State.completeRequest_port (k : SlotNo) (r : Result) (ws : List Word) (s : State) :
    (s.completeRequest k r ws).port = (s.raise .request).port := rfl
@[simp] theorem State.completeRequest_callRetries (k : SlotNo) (r : Result) (ws : List Word) (s : State) :
    (s.completeRequest k r ws).callRetries = s.callRetries := rfl
@[simp] theorem State.completeRequest_given (k : SlotNo) (r : Result) (ws : List Word) (s : State) :
    (s.completeRequest k r ws).given = s.given := rfl
@[simp] theorem State.completeRequest_pending (k : SlotNo) (r : Result) (ws : List Word) (s : State) :
    (s.completeRequest k r ws).pending = s.pending := rfl

@[simp] theorem State.countHeld_cm (bits : List LineBit) (s : State) : (s.countHeld bits).cm = s.cm := by
  simp only [State.countHeld, apply_ite State.cm, State.give, ite_self]
@[simp] theorem State.countHeld_feed (bits : List LineBit) (s : State) : (s.countHeld bits).feed = s.feed := by
  simp only [State.countHeld, apply_ite State.feed, State.give, ite_self]
@[simp] theorem State.countHeld_walker (bits : List LineBit) (s : State) : (s.countHeld bits).walker = s.walker := by
  simp only [State.countHeld, apply_ite State.walker, State.give, ite_self]
@[simp] theorem State.countHeld_dir (bits : List LineBit) (s : State) : (s.countHeld bits).dir = s.dir := by
  simp only [State.countHeld, apply_ite State.dir, State.give, ite_self]
@[simp] theorem State.countHeld_roll (bits : List LineBit) (s : State) : (s.countHeld bits).roll = s.roll := by
  simp only [State.countHeld, apply_ite State.roll, State.give, ite_self]
@[simp] theorem State.countHeld_req (bits : List LineBit) (s : State) : (s.countHeld bits).req = s.req := by
  simp only [State.countHeld, apply_ite State.req, State.give, ite_self]
@[simp] theorem State.countHeld_port (bits : List LineBit) (s : State) : (s.countHeld bits).port = s.port := by
  simp only [State.countHeld, apply_ite State.port, State.give, ite_self]
@[simp] theorem State.countHeld_callRetries (bits : List LineBit) (s : State) : (s.countHeld bits).callRetries = s.callRetries := by
  simp only [State.countHeld, apply_ite State.callRetries, State.give, ite_self]
@[simp] theorem State.countHeld_pending (bits : List LineBit) (s : State) : (s.countHeld bits).pending = s.pending := by
  simp only [State.countHeld, apply_ite State.pending, State.give, ite_self]
@[simp] theorem State.countHeld_line (bits : List LineBit) (s : State) :
    (s.countHeld bits).line = s.line.countBits (s.lineBits bits) := by
  simp only [State.countHeld, apply_ite State.line, State.give, ite_self]

@[simp] theorem State.directoryServes_cm (s : State) : s.directoryServes.cm = s.cm := rfl
@[simp] theorem State.directoryServes_feed (s : State) : s.directoryServes.feed = s.feed := rfl
@[simp] theorem State.directoryServes_line (s : State) : s.directoryServes.line = s.line := rfl
@[simp] theorem State.directoryServes_walker (s : State) : s.directoryServes.walker = s.walker := rfl
@[simp] theorem State.directoryServes_dir (s : State) : s.directoryServes.dir = { s.dir with serving := true } := rfl
@[simp] theorem State.directoryServes_roll (s : State) : s.directoryServes.roll = s.roll := rfl
@[simp] theorem State.directoryServes_req (s : State) : s.directoryServes.req = s.req := rfl
@[simp] theorem State.directoryServes_port (s : State) : s.directoryServes.port = s.port := rfl
@[simp] theorem State.directoryServes_callRetries (s : State) : s.directoryServes.callRetries = s.callRetries := rfl
@[simp] theorem State.directoryServes_given (s : State) : s.directoryServes.given = s.given := rfl
@[simp] theorem State.directoryServes_pending (s : State) : s.directoryServes.pending = s.pending := rfl

/-! ### Reading an entry or a slot after an update -/

theorem State.entry_eq (s : State) (n : Name) : s.entry n = s.dir.entries[n] := rfl

theorem State.slot_eq (s : State) (k : SlotNo) : s.slot k = s.req.slots[k] := rfl

/-- An entry is read from the directory alone. -/
theorem State.entry_congr {s t : State} (h : s.dir.entries = t.dir.entries) (n : Name) :
    s.entry n = t.entry n := by simp [State.entry, h]

/-- A slot is read from the request unit alone. -/
theorem State.slot_congr {s t : State} (h : s.req.slots = t.req.slots) (k : SlotNo) :
    s.slot k = t.slot k := by simp [State.slot, h]

@[simp] theorem State.entry_putEntry (n m : Name) (e : Entry) (s : State) :
    (s.putEntry n e).entry m = if n = m then e else s.entry m := by
  simp [State.entry, State.putEntry, Vector.getElem_set, Fin.ext_iff]

@[simp] theorem State.slot_putSlot (k j : SlotNo) (t : Slot) (s : State) :
    (s.putSlot k t).slot j = if k = j then t else s.slot j := by
  simp [State.slot, State.putSlot, Vector.getElem_set, Fin.ext_iff]

/-- A stable change of entry n: the fields written and GEN advanced by 2; every other entry as before (R73). -/
@[simp] theorem State.entry_stableEntry (n m : Name) (e : Entry) (s : State) :
    (s.stableEntry n e).entry m = if n = m then { e with gen := genAfter (s.entry n).gen } else s.entry m := by
  have h : (s.stableEntry n e).entry m = (s.putEntry n { e with gen := genAfter (s.entry n).gen }).entry m := rfl
  rw [h, State.entry_putEntry]

/-- A change of many entries: each changed entry has its own stable change, the others stay (R73). -/
@[simp] theorem State.entry_stableAll (f : Name → Entry → Option Entry) (s : State) (n : Name) :
    (s.stableAll f).entry n = match f n (s.entry n) with
      | some e => { e with gen := genAfter (s.entry n).gen }
      | none => s.entry n := by
  have h : (s.stableAll f).dir.entries = Vector.ofFn fun n =>
      match f n (s.entry n) with
      | some e => { e with gen := genAfter (s.entry n).gen }
      | none => s.entry n := by
    unfold State.stableAll; dsimp only; split <;> rfl
  rw [State.entry_eq, h]
  simp

/-- A slot after all slots were changed in one event. -/
@[simp] theorem State.slot_endSlots (f : Slot → Slot) (s : State) (k : SlotNo) :
    (s.endSlots f).slot k = f (s.slot k) := by
  simp [State.slot]

/-- The slots after a completion: slot k ended, the others as before (R151). -/
@[simp] theorem State.slot_completeRequest (k j : SlotNo) (r : Result) (ws : List Word) (s : State) :
    (s.completeRequest k r ws).slot j = if k = j then (s.slot k).ended r ws else s.slot j := by
  have h : (s.completeRequest k r ws).slot j = (s.putSlot k ((s.slot k).ended r ws)).slot j := rfl
  rw [h, State.slot_putSlot]

/-- The post-order list after a completion: without slot k (R151). -/
@[simp] theorem State.completeRequest_postOrder (k : SlotNo) (r : Result) (ws : List Word) (s : State) :
    (s.completeRequest k r ws).req.postOrder = s.req.postOrder.filter (fun j => j ≠ k) := rfl

end Sys2Proof.Machine
end

