-- ==== Sys2Proof/Laws/Kept.lean ====
section
/-! SUPPORT. What the events of the line unit, walker, directory, roll caller and request unit never touch: the
coupling monitor, the feed supervisor, the settings and values in force, and the queue. -/

namespace Sys2Proof.Machine

/-- What those events keep, gathered. -/
structure Kept where
  cm : CouplingMonitor
  feed : FeedSupervisor
  port : ExchangePort
  rate : LineRate
  passAttempts : Nat
  sweepRounds : Nat
  rollMs : Nat
  strikeLimit : Nat
  keepRounds : Nat
  waitMs : Nat
  ackMask : AckMask
  serving : Bool
  callRetries : Nat
  pending : List Instr

/-- The kept part of a state; of the port, everything but the record's GEN and ALERT. -/
def State.kept (s : State) : Kept where
  cm := s.cm
  feed := s.feed
  port := { s.port with recGen := 0, alert := 0 }
  rate := s.line.rate
  passAttempts := s.walker.passAttempts
  sweepRounds := s.walker.sweepRounds
  rollMs := s.roll.rollMs
  strikeLimit := s.roll.strikeLimit
  keepRounds := s.roll.keepRounds
  waitMs := s.req.waitMs
  ackMask := s.dir.ackMask
  serving := s.dir.serving
  callRetries := s.callRetries
  pending := s.pending

variable (s : State)

/-! ### Named updates -/

@[simp] theorem State.raise_kept (a : Alert) : (s.raise a).kept = s.kept := rfl
@[simp] theorem State.give_kept (l : List Instr) : (s.give l).kept = s.kept := rfl
@[simp] theorem State.take_kept (c : Instr) : (s.take c).kept = s.kept := rfl
@[simp] theorem State.putEntry_kept (n : Name) (e : Entry) : (s.putEntry n e).kept = s.kept := rfl
@[simp] theorem State.stableEntry_kept (n : Name) (e : Entry) : (s.stableEntry n e).kept = s.kept := rfl
@[simp] theorem State.liveEntry_kept (n : Name) (w : Word) (a b : Nat) : (s.liveEntry n w a b).kept = s.kept := rfl
@[simp] theorem State.putSlot_kept (k : SlotNo) (t : Slot) : (s.putSlot k t).kept = s.kept := rfl
@[simp] theorem State.recordChange_kept (a : Alert) : (s.recordChange a).kept = s.kept := rfl
@[simp] theorem State.joinRelease_kept (n : Name) : (s.joinRelease n).kept = s.kept := rfl
@[simp] theorem State.leaveRelease_kept (n : Name) : (s.leaveRelease n).kept = s.kept := rfl
@[simp] theorem State.recordOffer_kept (n : Name) (i : Identity) (k : OfferKind) (p : Entry) :
    (s.recordOffer n i k p).kept = s.kept := rfl
@[simp] theorem State.clearOffer_kept : s.clearOffer.kept = s.kept := rfl
@[simp] theorem State.setFlight_kept (f : Flight) : (s.setFlight f).kept = s.kept := rfl
@[simp] theorem State.freeLine_kept : s.freeLine.kept = s.kept := rfl
@[simp] theorem State.askAgain_kept (b : Claimant) (c : Call) : (s.askAgain b c).kept = s.kept := rfl
@[simp] theorem State.lineStandDown_kept : s.lineStandDown.kept = s.kept := rfl
@[simp] theorem State.storeAsk_kept (k : SlotNo) (w : Word) : (s.storeAsk k w).kept = s.kept := rfl
@[simp] theorem State.completeRequest_kept (k : SlotNo) (r : Result) (ws : List Word) :
    (s.completeRequest k r ws).kept = s.kept := rfl
@[simp] theorem State.waitForLine_kept (k : SlotNo) (q : LineRequest) : (s.waitForLine k q).kept = s.kept := rfl
@[simp] theorem State.stableAll_kept (f : Name → Entry → Option Entry) : (s.stableAll f).kept = s.kept := by
  unfold State.stableAll
  generalize (allNames.any fun n => (f n (s.entry n)).isSome) = b
  cases b <;> simp [State.kept, State.raise]
@[simp] theorem State.endSlots_kept (f : Slot → Slot) : (s.endSlots f).kept = s.kept := by
  simp only [State.endSlots]; split <;> rfl

/-! ### Directory unit -/

@[simp] theorem State.vacate_kept (n : Name) : (s.vacate n).kept = s.kept := rfl
@[simp] theorem State.vacateOwed_kept (n : Name) : (s.vacateOwed n).kept = s.kept := rfl
@[simp] theorem State.depart_kept (n : Name) : (s.depart n).kept = s.kept := by
  unfold State.depart; split <;> rfl
@[simp] theorem State.disputeEntry_kept (n : Name) : (s.disputeEntry n).kept = s.kept := rfl
@[simp] theorem State.takeReleaseSent_kept (n : Name) : (s.takeReleaseSent n).kept = s.kept := by
  unfold State.takeReleaseSent; dsimp only; repeat' split
  all_goals rfl
@[simp] theorem State.acknowledge_kept (n : Name) (v : Word) : (s.acknowledge n v).kept = s.kept := by
  unfold State.acknowledge; dsimp only; repeat' split
  all_goals rfl
@[simp] theorem State.evict_kept (o : Option Name) : (s.evict o).kept = s.kept := by
  cases o
  · rfl
  · exact s.depart_kept _
@[simp] theorem State.makeOffer_kept (i : Identity) (c : Byte) (x : NameChoice) :
    (s.makeOffer i c x).kept = s.kept := by
  cases x with
  | evicted => exact s.evict_kept s.victim
  | _ => simp only [State.makeOffer, State.recordOffer_kept, State.stableEntry_kept]
@[simp] theorem State.settleOffer_kept (o : Offer) (r : ClaimResult) (st : Option Byte) :
    (s.settleOffer o r st).kept = s.kept := by
  have h1 := fun n e => s.stableEntry_kept n e
  have h2 := fun n => s.vacateOwed_kept n
  have h3 := fun n => s.disputeEntry_kept n
  unfold State.settleOffer
  split
  · exact h3 _
  · split <;> first | exact h2 _ | exact h1 _ _ | rfl
  · split <;> exact h1 _ _
@[simp] theorem State.takeOutcome_kept (n : Name) (i : Identity) (r : ClaimResult) (st : Option Byte) :
    (s.takeOutcome n i r st).kept = s.kept := by
  unfold State.takeOutcome; repeat' split
  all_goals simp
@[simp] theorem State.takeMoveRelease_kept (m t : Name) : (s.takeMoveRelease m t).kept = s.kept := by
  unfold State.takeMoveRelease; dsimp only; split <;> rfl
@[simp] theorem State.takeRollReport_kept (n : Name) (rep : RollReport) :
    (s.takeRollReport n rep).kept = s.kept := by
  unfold State.takeRollReport; dsimp only; repeat' split
  all_goals simp
@[simp] theorem State.forget_kept (n : Name) : (s.forget n).kept = s.kept := by
  unfold State.forget; split <;> simp
@[simp] theorem State.directoryLineClear_kept : s.directoryLineClear.kept = s.kept := by
  simp [State.directoryLineClear]
/-- The coupling-lost notice ends the taking of roll reports and keeps all else. -/
theorem State.directoryLoss_kept : s.directoryLoss.kept = { s.kept with serving := false } := by
  have h : s.directoryLoss.kept = { (s.stableAll fun n e =>
    couplingLostEntry s.roll.keepRounds s.dir.ackMask s.dir.offer n e).kept with serving := false } := rfl
  rw [h, State.stableAll_kept]

/-! ### Walker -/

@[simp] theorem State.startPass_kept (st : WalkerState) : (s.startPass st).kept = s.kept := rfl
@[simp] theorem State.closePass_kept (how : PassEnd) : (s.closePass how).kept = s.kept := rfl
@[simp] theorem State.endPass_kept (how : PassEnd) : (s.endPass how).kept = s.kept := by
  unfold State.endPass; dsimp only; split <;> rfl
@[simp] theorem State.endIfDone_kept : s.endIfDone.kept = s.kept := by
  unfold State.endIfDone; split <;> simp
@[simp] theorem State.startFurther_kept : s.startFurther.kept = s.kept := by
  unfold State.startFurther; split <;> rfl
@[simp] theorem State.wantPass_kept : s.wantPass.kept = s.kept := by
  unfold State.wantPass; split <;> first | exact s.startFurther_kept | rfl

/-- The settings the walker keeps are not among the fields that pushing a prefix writes. -/
theorem Walker.push_kept (p : Prefix) (w : Walker) :
    (w.push p).passAttempts = w.passAttempts ∧ (w.push p).sweepRounds = w.sweepRounds := by
  unfold Walker.push; split <;> exact ⟨rfl, rfl⟩

theorem Walker.takeGarbled_kept (p : Prefix) (l : List Nat) (w : Walker) :
    (Walker.takeGarbled p w l).passAttempts = w.passAttempts ∧
    (Walker.takeGarbled p w l).sweepRounds = w.sweepRounds := by
  induction l generalizing w with
  | nil => exact ⟨rfl, rfl⟩
  | cons g rest ih =>
    rw [Walker.takeGarbled, (ih _).1, (ih _).2]
    split
    · exact Walker.push_kept _ _
    · exact ⟨rfl, rfl⟩

theorem Walker.takeWindows_kept (p : Prefix) (j : List Window) (w : Walker) :
    (w.takeWindows p j).passAttempts = w.passAttempts ∧ (w.takeWindows p j).sweepRounds = w.sweepRounds := by
  unfold Walker.takeWindows; exact Walker.takeGarbled_kept _ _ _

theorem Walker.countClaim_kept (x : ClaimContext) (r : ClaimResult) (w : Walker) :
    (w.countClaim x r).passAttempts = w.passAttempts ∧ (w.countClaim x r).sweepRounds = w.sweepRounds := by
  unfold Walker.countClaim
  repeat' split
  all_goals first | exact ⟨rfl, rfl⟩ | exact Walker.push_kept _ _

/-- A walker replaced by one with the same settings. -/
theorem State.kept_of_walker (w : Walker) (h1 : w.passAttempts = s.walker.passAttempts)
    (h2 : w.sweepRounds = s.walker.sweepRounds) : ({ s with walker := w } : State).kept = s.kept := by
  simp [State.kept, h1, h2]

@[simp] theorem State.walkWindows_kept (p : Prefix) (j : List Window) : (s.walkWindows p j).kept = s.kept := by
  have h := s.kept_of_walker _ (Walker.takeWindows_kept p j s.walker).1 (Walker.takeWindows_kept p j s.walker).2
  unfold State.walkWindows; dsimp only; split <;> simp [h]
@[simp] theorem State.sweepWindows_kept (j : List Window) : (s.sweepWindows j).kept = s.kept := by
  unfold State.sweepWindows; dsimp only; repeat' split
  · rfl
  · rfl
  · rw [State.walkWindows_kept]; rfl
@[simp] theorem State.handWindows_kept (heard : List Window) : (s.handWindows heard).kept = s.kept := by
  unfold State.handWindows; repeat' split
  all_goals first | rfl | simp
@[simp] theorem State.finishClaim_kept (x : ClaimContext) (r : ClaimResult) (st : Option Byte) :
    (s.finishClaim x r st).kept = s.kept := by
  unfold State.finishClaim; dsimp only
  rw [State.endIfDone_kept]
  split
  · refine (State.kept_of_walker _ _ (Walker.countClaim_kept x r _).1 (Walker.countClaim_kept x r _).2).trans ?_
    rw [State.wantPass_kept]
    exact s.takeOutcome_kept x.name x.cand.ident r st
  · refine (State.kept_of_walker _ _ (Walker.countClaim_kept x r _).1 (Walker.countClaim_kept x r _).2).trans ?_
    exact s.takeOutcome_kept x.name x.cand.ident r st
@[simp] theorem State.walkerLineClear_kept : s.walkerLineClear.kept = s.kept := by
  unfold State.walkerLineClear; dsimp only; repeat' split
  all_goals first | exact s.startFurther_kept | rfl
@[simp] theorem State.walkerLoss_kept : s.walkerLoss.kept = s.kept := by
  unfold State.walkerLoss; dsimp only; split <;> rfl

/-! ### Roll caller -/

@[simp] theorem State.openRound_kept : s.openRound.kept = s.kept := rfl
@[simp] theorem State.closeRound_kept : s.closeRound.kept = s.kept := rfl
@[simp] theorem State.endRound_kept : s.endRound.kept = s.kept := by
  unfold State.endRound; dsimp only; repeat' split
  all_goals rfl
@[simp] theorem State.beginRound_kept : s.beginRound.kept = s.kept := by
  unfold State.beginRound; dsimp only; split <;> simp
@[simp] theorem State.finishRoll_kept (h : RollCall) (a : Answer) : (s.finishRoll h a).kept = s.kept := by
  unfold State.finishRoll; dsimp only; split <;> simp <;> rfl
@[simp] theorem State.rollAbandoned_kept : s.rollAbandoned.kept = s.kept := by
  unfold State.rollAbandoned; split <;> rfl
@[simp] theorem State.rollLoss_kept : s.rollLoss.kept = s.kept := rfl

/-! ### Grants -/

@[simp] theorem State.dropCandidate_kept (f : PassCounts → PassCounts) : (s.dropCandidate f).kept = s.kept := by
  unfold State.dropCandidate; rw [State.endIfDone_kept]; rfl
@[simp] theorem State.sendClaim_kept (x : Candidate) (n : Name) (k : OfferKind) :
    (s.sendClaim x n k).kept = s.kept := rfl
@[simp] theorem State.claimGrant_kept (x : Candidate) : (s.claimGrant x).kept = s.kept := by
  unfold State.claimGrant; dsimp only; split <;> simp
@[simp] theorem State.walkerGrant_kept : s.walkerGrant.kept = s.kept := by
  unfold State.walkerGrant; repeat' split
  all_goals first | rfl | simp
@[simp] theorem State.rollGrant_kept : s.rollGrant.kept = s.kept := by
  unfold State.rollGrant; split
  · rw [State.endRound_kept]; rfl
  · rfl
@[simp] theorem State.goOnLine_kept (k : SlotNo) (m : Name) (c : Call) : (s.goOnLine k m c).kept = s.kept := rfl
@[simp] theorem State.serveRequest_kept (k : SlotNo) (q : LineRequest) : (s.serveRequest k q).kept = s.kept := by
  unfold State.serveRequest; repeat' split
  all_goals simp
@[simp] theorem State.requestGrant_kept : s.requestGrant.kept = s.kept := by
  unfold State.requestGrant; dsimp only; repeat' split
  all_goals simp
  all_goals rfl
@[simp] theorem State.grant_kept (g : Grant) : (s.grant g).kept = s.kept := by
  unfold State.grant State.rotationGrant; dsimp only; repeat' split
  all_goals simp
  all_goals rfl

@[simp] theorem State.grantLoop_kept (k : Nat) : (State.grantLoop k s).kept = s.kept := by
  induction k generalizing s with
  | zero => rfl
  | succ k ih =>
    unfold State.grantLoop
    split
    · split
      · rw [ih, State.grant_kept]
      · rfl
    · rfl

/-- A grant decision touches no coupling state, no feed, no setting and not the queue. -/
@[simp] theorem State.decideGrant_kept : s.decideGrant.kept = s.kept := by
  unfold State.decideGrant; split <;> simp

@[simp] theorem State.decideIfJoined_kept (t : State) : (s.decideIfJoined t).kept = t.kept := by
  unfold State.decideIfJoined; split <;> simp

/-! ### Calls, answers and the line clear -/

@[simp] theorem State.releaseSent_kept (n : Name) : (s.releaseSent n).kept = s.kept := by
  simp [State.releaseSent]
@[simp] theorem State.moveReleaseSent_kept (m : Name) : (s.moveReleaseSent m).kept = s.kept := by
  unfold State.moveReleaseSent; dsimp only; split <;> simp
@[simp] theorem State.claimantCallSent_kept (b : Claimant) (c : Call) : (s.claimantCallSent b c).kept = s.kept := by
  unfold State.claimantCallSent; split <;> simp
@[simp] theorem State.walkerAnswer_kept (c : Call) (a : Answer) : (s.walkerAnswer c a).kept = s.kept := by
  unfold State.walkerAnswer; dsimp only; repeat' split
  all_goals simp
@[simp] theorem State.rollAnswer_kept (c : Call) (a : Answer) : (s.rollAnswer c a).kept = s.kept := by
  unfold State.rollAnswer; repeat' split
  · simp
  · simp
  · rfl
@[simp] theorem State.finishRequest_kept (k : SlotNo) (r : Result) (ws : List Word) :
    (s.finishRequest k r ws).kept = s.kept := by
  unfold State.finishRequest; rw [State.decideGrant_kept]; rfl
@[simp] theorem State.readAnswer_kept (h : RequestCall) (c : Call) (n : Nat) (a : Answer) :
    (s.readAnswer h c n a).kept = s.kept := by
  unfold State.readAnswer; dsimp only; repeat' split
  all_goals first | rfl | simp
@[simp] theorem State.finishMove_kept (h : RequestCall) (t : Name) (r : ClaimResult) (st : Option Byte) (a : Answer) :
    (s.finishMove h t r st a).kept = s.kept := by
  unfold State.finishMove; dsimp only; split <;> simp
@[simp] theorem State.requestAnswer_kept (c : Call) (a : Answer) : (s.requestAnswer c a).kept = s.kept := by
  unfold State.requestAnswer; dsimp only; repeat' split
  all_goals first | rfl | simp
@[simp] theorem State.claimantAnswer_kept (b : Claimant) (c : Call) (a : Answer) :
    (s.claimantAnswer b c a).kept = s.kept := by
  cases b <;> simp [State.claimantAnswer]
@[simp] theorem State.tellWalkerClear_kept : s.tellWalkerClear.kept = s.kept := by
  unfold State.tellWalkerClear; split <;> simp
@[simp] theorem State.clearSent_kept : s.clearSent.kept = s.kept := by
  unfold State.clearSent; dsimp only; simp; rfl

/-- Counting bit times writes the count and whether it runs, and nothing else of the line unit (R47). -/
theorem LineUnit.countBits_eq (bits : List LineBit) (l : LineUnit) : l.countBits bits = { l with
    heldCount := (l.countBits bits).heldCount, heldRunning := (l.countBits bits).heldRunning } := by
  induction bits generalizing l with
  | nil => rfl
  | cons b rest ih =>
    unfold LineUnit.countBits
    split
    · rw [ih]
    · rfl

@[simp] theorem State.countHeld_kept (bits : List LineBit) : (s.countHeld bits).kept = s.kept := by
  have h : (s.line.countBits (s.lineBits bits)).rate = s.line.rate := by rw [LineUnit.countBits_eq]
  unfold State.countHeld; dsimp only; split <;> simp [State.kept, State.give, h]

end Sys2Proof.Machine
end

