-- ==== Sys2Proof/Laws/Ops.lean ====
section
/-! SUPPORT. For each shared operation one lemma that says once everything it does: as the record it leaves, or as a
principle by which a property passes through it. -/

namespace Sys2Proof.Machine

variable (s : State)

/-! ### Alerts and generation words -/

theorem genAfter_eq (g : Word) : genAfter g = g + 2 := by unfold genAfter; bv_omega

/-- A stable change keeps GEN even (R73). -/
theorem genEven_genAfter (g : Word) : genEven (genAfter g) = genEven g := by
  have h : (g + 2).toNat = (g.toNat + 2) % 65536 := by simp [BitVec.toNat_add]
  simp only [genAfter_eq, genEven, BitVec.getLsbD, Nat.testBit_zero, h]
  have : (g.toNat + 2) % 65536 % 2 = g.toNat % 2 := by omega
  rw [this]

theorem Alert.mask_coupling : Alert.mask .coupling = 1#7 := rfl
theorem Alert.mask_directory : Alert.mask .directory = 2#7 := rfl
theorem Alert.mask_request : Alert.mask .request = 4#7 := rfl
theorem Alert.mask_pass : Alert.mask .pass = 8#7 := rfl
theorem Alert.mask_trip : Alert.mask .trip = 16#7 := rfl
theorem Alert.mask_misuse : Alert.mask .misuse = 32#7 := rfl
theorem Alert.mask_clamped : Alert.mask .clamped = 64#7 := rfl

theorem State.raise_eq (a : Alert) :
    s.raise a = { s with port := { s.port with alert := s.port.alert ||| a.mask } } := rfl

theorem State.recordChange_eq (a : Alert) : s.recordChange a = { s with
    port := { s.port with recGen := s.port.recGen + 2, alert := s.port.alert ||| a.mask } } := by
  simp only [State.recordChange, State.raise, genAfter_eq]

/-! ### The coupling record (R3, R20, R142) -/

theorem State.setMonitor_changed (c : CouplingMonitor) (h : c.recordFields ≠ s.cm.recordFields) :
    s.setMonitor c = { s with
      cm := c
      port := { s.port with recGen := s.port.recGen + 2, alert := s.port.alert ||| 1#7 } } := by
  simp only [State.setMonitor, if_neg h, State.recordChange_eq, Alert.mask_coupling]

theorem State.setMonitor_same (c : CouplingMonitor) (h : c.recordFields = s.cm.recordFields) :
    s.setMonitor c = { s with cm := c } := by
  simp only [State.setMonitor, if_pos h]

theorem State.setFeed_changed (a : Alert) (f : FeedSupervisor) (h : f.recordFields ≠ s.feed.recordFields) :
    s.setFeed a f = { s with
      feed := f
      port := { s.port with recGen := s.port.recGen + 2, alert := s.port.alert ||| a.mask } } := by
  simp only [State.setFeed, if_neg h, State.recordChange_eq]

theorem State.setFeed_same (a : Alert) (f : FeedSupervisor) (h : f.recordFields = s.feed.recordFields) :
    s.setFeed a f = { s with feed := f } := by
  simp only [State.setFeed, if_pos h]

/-! ### Entries (R73) -/

theorem State.stableEntry_eq (n : Name) (e : Entry) : s.stableEntry n e = { s with
    dir := { s.dir with
      entries := s.dir.entries.set n.val { e with gen := (s.entry n).gen + 2 } n.isLt }
    port := { s.port with alert := s.port.alert ||| 2#7 } } := by
  simp only [State.stableEntry, State.putEntry, State.raise, genAfter_eq, Alert.mask_directory]

theorem State.liveEntry_eq (n : Name) (w : Word) (a b : Nat) : s.liveEntry n w a b = { s with
    dir := { s.dir with
      entries := s.dir.entries.set n.val { s.entry n with stamp := w, strikes := a, keep := b } n.isLt } } := rfl

/-! ### Slots (R151) -/

theorem State.completeRequest_eq (k : SlotNo) (r : Result) (ws : List Word) :
    s.completeRequest k r ws = { s with
      req := { s.req with
        slots := s.req.slots.set k.val ((s.slot k).ended r ws) k.isLt
        postOrder := s.req.postOrder.filter (fun j => j ≠ k) }
      port := { s.port with alert := s.port.alert ||| 4#7 } } := rfl

theorem State.waitForLine_eq (k : SlotNo) (q : LineRequest) : s.waitForLine k q = { s with
    req := { s.req with
      slots := s.req.slots.set k.val
        { s.slot k with phase := .waiting, result := .ok, latched := some q, wait := some s.req.waitMs } k.isLt
      postOrder := s.req.postOrder ++ [k] } } := rfl

theorem State.goOnLine_eq (k : SlotNo) (m : Name) (c : Call) : s.goOnLine k m c = { s with
    line := { s.line with flight := .sending .requestUnit c }
    req := { s.req with
      slots := s.req.slots.set k.val { s.slot k with phase := .onLine, result := .ok } k.isLt
      hand := some { slot := k, ident := (s.entry m).ident } } } := rfl

/-! ### The line-held count (R47) -/

/-- A count that does not run stays as it is. -/
theorem LineUnit.countBits_of_stopped (l : LineUnit) (bits : List LineBit) (h : l.heldRunning = false) :
    l.countBits bits = l := by
  cases bits with
  | nil => rfl
  | cons b rest => simp [LineUnit.countBits, h]

/-- Driven bit times pause the count. -/
theorem LineUnit.countBits_driven (l : LineUnit) (bits : List LineBit) (h : l.heldCount < 64)
    (hb : ∀ b ∈ bits, b = .driven) : l.countBits bits = l := by
  induction bits with
  | nil => rfl
  | cons b rest ih =>
    cases hr : l.heldRunning with
    | false => exact l.countBits_of_stopped _ hr
    | true =>
      have e : LineUnit.countBits l (b :: rest) = LineUnit.countBits l rest := by
        conv => lhs; unfold LineUnit.countBits
        rw [if_pos hr, hb b (by simp)]
        simp only [heldAfterBit, Config.heldLimit, h, decide_true]
        congr 1
        cases l; simp_all
      rw [e]
      exact ih fun b hb' => hb b (by simp [hb'])

/-- The bit times of a line on which the part sends nothing, none of them written as driven, are as they are given. -/
theorem State.lineBits_of_released (bits : List LineBit) (h : s.transmitter = .released)
    (hb : ∀ b ∈ bits, b ≠ .driven) : s.lineBits bits = bits := by
  simp only [State.lineBits, h]
  refine (List.map_congr_left (g := id) fun b hm => ?_).trans (List.map_id _)
  cases b <;> first | rfl | exact absurd rfl (hb _ hm)

/-! ### Roll reports and an abandoned roll (R90, R129) -/

@[simp] theorem State.takesRollReports_iff :
    s.takesRollReports = true ↔ s.cm.state = .serving ∨ s.dir.serving = true := by simp [State.takesRollReports]

theorem State.takeRollReport_of_ignored (n : Name) (rep : RollReport)
    (h : ¬(s.takesRollReports = true ∧ rollReportFits rep (s.entry n).state = true)) :
    s.takeRollReport n rep = s := by
  simp only [State.takeRollReport, h, if_false]

theorem State.rollWithdrawn_iff (by_ : Claimant) :
    s.rollWithdrawn by_ = true ↔ by_ = .rollCaller ∧ s.roll.hand = none := by simp [State.rollWithdrawn]

theorem State.rollWithdrawn_of_hand (by_ : Claimant) (h : by_ ≠ .rollCaller ∨ s.roll.hand ≠ none) :
    s.rollWithdrawn by_ = false := by
  rw [← Bool.not_eq_true, s.rollWithdrawn_iff]
  rintro ⟨rfl, hn⟩
  exact h.elim (· rfl) (· hn)

/-- All that an abandonment does at the roll caller: hand and due set, with and without a call in hand. -/
theorem State.rollAbandoned_eq : s.rollAbandoned = { s with roll := { s.roll with
    hand := none, due := s.roll.due.filter fun m => s.roll.hand.all fun h => m ≠ h.name } } := by
  rcases s with ⟨_, _, _, _, _, ⟨_, _, _, _, _, hand, _, _, _⟩, _, _, _, _, _⟩
  cases hand <;> simp [State.rollAbandoned]

/-! ### Passes (R98, R110, R111) -/

theorem State.startFurther_of_lineOn (h : s.cm.state.lineOn = true) : s.startFurther = s.startPass .walking := by
  simp [State.startFurther, h]

theorem State.startFurther_of_lineOff (h : s.cm.state.lineOn = false) : s.startFurther = s := by
  simp [State.startFurther, h]

theorem State.startPass_eq (st : WalkerState) : s.startPass st = { s with
    walker := { s.walker with
      state := st, stack := [[]], candidates := []
      claim := if s.walkerInFlight then s.walker.claim else none
      passNumber := s.walker.passNumber + 1, counts := {}, sweepCount := 0 }
    given := s.given ++ [.passStartReport] } := rfl

theorem State.closePass_eq (how : PassEnd) : s.closePass how = { s with
    walker := { s.walker with
      state := .idle, stack := [], candidates := []
      claim := if s.walkerInFlight then s.walker.claim else none
      attempts := attemptsAfter s.walker.attempts (passResultOf s.walker.counts how) how
      record := ⟨s.walker.passNumber, passResultOf s.walker.counts how, s.walker.counts⟩ }
    port := { s.port with recGen := s.port.recGen + 2, alert := s.port.alert ||| 8#7 }
    given := s.given ++ [.passEndReport (passResultOf s.walker.counts how)
      (followUpWanted s.walker (passResultOf s.walker.counts how) how)] } := by
  simp only [State.closePass, State.recordChange_eq, Alert.mask_pass, State.give]

/-! ### Grants (R50 to R52) -/

/-- A property that every grant keeps, a grant decision keeps. -/
theorem State.grantLoop_induct {P : State → Prop}
    (h : ∀ (t : State) (g : Grant), t.line.flight = .free → t.nextGrant = some g → P t → P (t.grant g))
    (k : Nat) (hs : P s) : P (State.grantLoop k s) := by
  induction k generalizing s with
  | zero => exact hs
  | succ k ih =>
    unfold State.grantLoop
    split
    · rename_i hf
      split
      · rename_i g hg
        exact ih _ (h s g hf hg hs)
      · exact hs
    · exact hs

theorem State.decideGrant_induct {P : State → Prop}
    (h : ∀ (t : State) (g : Grant), t.line.flight = .free → t.nextGrant = some g → P t → P (t.grant g))
    (hs : P s) : P s.decideGrant := by
  unfold State.decideGrant; split
  · exact s.grantLoop_induct h _ hs
  · exact hs

theorem State.decideIfJoined_induct {P : State → Prop} (t : State)
    (h : ∀ (t : State) (g : Grant), t.line.flight = .free → t.nextGrant = some g → P t → P (t.grant g))
    (ht : P t) : P (s.decideIfJoined t) := by
  unfold State.decideIfJoined; split
  · exact ht
  · exact t.decideGrant_induct h ht

/-- A decision that finds a claim makes one grant and goes on. -/
theorem State.decideGrant_of_grant (g : Grant) (ha : s.line.active = true) (hc : s.cm.state.lineOn = true)
    (hf : s.line.flight = .free) (hg : s.nextGrant = some g) :
    s.decideGrant = State.grantLoop (s.walker.candidates.length + s.req.postOrder.length + 2) (s.grant g) := by
  simp only [State.decideGrant, State.mayGrant, ha, hc, Bool.and_self, if_true, State.grantFuel]
  rw [State.grantLoop, if_pos hf, hg]

/-- A grant that puts a call group in flight ends the decision. -/
theorem State.grantLoop_of_flight (k : Nat) (h : s.line.flight ≠ .free) : State.grantLoop k s = s := by
  cases k with
  | zero => rfl
  | succ k => rw [State.grantLoop, if_neg h]

theorem State.decideGrant_of_flight (h : s.line.flight ≠ .free) : s.decideGrant = s := by
  unfold State.decideGrant; split
  · exact s.grantLoop_of_flight _ h
  · rfl

theorem State.decideGrant_of_inactive (h : s.line.active = false) : s.decideGrant = s := by
  simp [State.decideGrant, State.mayGrant, h]

/-- Nothing is granted outside DISCOVERING and SERVING (R50). -/
theorem State.decideGrant_of_lineOff (h : s.cm.state.lineOn = false) : s.decideGrant = s := by
  simp [State.decideGrant, State.mayGrant, h]

theorem State.decideGrant_of_none (h : s.nextGrant = none) : s.decideGrant = s := by
  unfold State.decideGrant State.grantFuel; split
  · rw [State.grantLoop]; split <;> simp [h]
  · rfl

end Sys2Proof.Machine
end

