-- ==== Sys2Proof/Tests/Slice0.lean ====
section
/-! SUPPORT. The model's own tests: the operand checks with an ill-formed command for each, examples of the manual on single
steps, and, for each statement with hypotheses, concrete states and operands that meet them. A function that a
statement brings in by an equation for all its arguments is met by the function the equation writes
(`test_equation_has_function`), so the witnesses leave those out. -/

namespace Sys2Proof.Machine.Tests

open Sys2Proof Sys2Proof.Machine

/-! ### Well-formed operands -/

theorem test_edges_out_of_order_refused :
    (Instr.answerEnd [⟨200, true, 1, false, true⟩, ⟨200, true, 2, false, true⟩]).wellFormed = false := by decide
theorem test_window_edges_out_of_order_refused :
    (Instr.windowEnd [⟨300, true, 1, false, true⟩, ⟨200, true, 2, false, true⟩]).wellFormed = false := by decide
theorem test_edge_outside_window_refused :
    (Instr.windowEnd [⟨9600, true, 1, false, true⟩]).wellFormed = false := by decide
theorem test_claim_status_without_success_refused :
    (Instr.claimOutcomeReport 0 1 .failure (some 7)).wellFormed = false := by decide
theorem test_move_status_without_success_refused :
    (Instr.moveOutcomeReport 0 1 .dispute (some 7)).wellFormed = false := by decide
theorem test_move_to_itself_refused : (Instr.moveReleaseReport 3 3).wellFormed = false := by decide
theorem test_strike_of_zero_refused : (Instr.rollReport 0 (.strike 0)).wellFormed = false := by decide
theorem test_strike_of_fifteen_refused : (Instr.rollReport 0 (.strike 15)).wellFormed = false := by decide
theorem test_keep_of_zero_refused : (Instr.rollReport 0 (.retentionStep 0)).wellFormed = false := by decide
theorem test_keep_of_255_refused : (Instr.rollReport 0 (.retentionStep 255)).wellFormed = false := by decide
theorem test_pass_without_result_refused : (Instr.passEndReport .none true).wellFormed = false := by decide
theorem test_edge_at_window_end_accepted :
    (Instr.windowEnd [⟨0, true, 1, false, true⟩, ⟨9599, true, 2, false, true⟩]).wellFormed = true := by decide
theorem test_strike_of_fourteen_accepted : (Instr.rollReport 0 (.strike 14)).wellFormed = true := by decide

/-! ### Helpers -/

/-- The next state of an outcome. -/
def nextOf : Host.Outcome State Fault Refusal → Option State
  | .next t => some t
  | _ => none

/-- The part in RUN with the coupling in a state and its contacts at two levels. -/
def runIn (c : CouplingState) (first last : Bool) : State :=
  { State.reset with
    cm := { state := c, first := first, last := last, shownFirst := first, shownLast := last }
    port := { run := true } }

/-- SERVING with an active, free line that takes all claimants. -/
def served : State :=
  { runIn .serving true true with line := { active := true, serving := true } }

/-- A state with another entry n. -/
def withEntry (n : Name) (e : Entry) (s : State) : State := s.putEntry n e

/-- A state with another slot 0. -/
def withSlot (t : Slot) (s : State) : State := s.putSlot 0 t

/-- A state whose line unit has a call group in flight. -/
def withFlight (f : Flight) (s : State) : State := { s with line := { s.line with active := true, flight := f } }

/-- A state with another walker. -/
def withWalker (w : Walker) (s : State) : State := { s with walker := w }

/-- Devices A, B of section 3.5 and section 6.9, C of section 6.9, X and Y of section 6.11. -/
def devA : Device := ⟨0x3A7F02C15590, 0x14, 0, none⟩
def devB : Device := ⟨0x3A9100E4D2B7, 0x14, 0, none⟩
def devC : Device := ⟨0x7C0013A0FF21, 0x02, 0, none⟩
def devX : Device := ⟨0x51E00000003E, 0x01, 0, none⟩
def devY : Device := ⟨0x5120000000C0, 0x01, 0, none⟩

/-- The answer of characters sent back to back, the first falling edge 2 bit times after the call. -/
def backToBackAnswer (vals : List Byte) : List LineEdge := answerEdges 200 ((withCheck vals).map fun v => (v, 50))

/-- Half an answer. -/
def halfAnswer : List LineEdge := [startEdge 200 0x3A]

/-- A device's CLAIM or ROLL answer: identity, class and the byte after it. -/
def heard (d : Device) (b : Byte) : List LineEdge := backToBackAnswer (identityBytes d.ident ++ [d.cls, b])

theorem test_equation_has_function (α β : Type) (f : α → β) : ∃ g : α → β, ∀ a, g a = f a := ⟨f, fun _ => rfl⟩

/-! ### Examples of the manual -/

/-- Section 6.9: the checks of A, B and C. -/
theorem test_checks_of_section_6_9 :
    checkOf (identityBytes devA.ident ++ [devA.cls]) = 0x8A ∧ checkOf (identityBytes devB.ident ++ [devB.cls]) = 0xB3 ∧
    checkOf (identityBytes devC.ident ++ [devC.cls]) = 0xAE := by decide

/-- Section 11.7: the prefix "3A7" is sent as 0x3A, 0x70, 0, 0, 0, 0. -/
theorem test_prefix_characters :
    (Call.seek [3, 0xA, 7]).values = [0, 1, 3, 0x3A, 0x70, 0, 0, 0, 0] := by decide

/-- Section 4.10: the call and the answer of a READ of three words at 0x0040 of name 14. -/
theorem test_read_of_three_words :
    (Call.read 13 0x0040 3).values = [14, 4, 0, 0x40, 3] ∧
    checkOf [0x12, 0x34, 0x00, 0xFF, 0xA0, 0x01] = 0x19 ∧
    hearAnswer (.read 13 0x0040 3) (backToBackAnswer [0x12, 0x34, 0x00, 0xFF, 0xA0, 0x01]) =
      .clean [0x12, 0x34, 0x00, 0xFF, 0xA0, 0x01] ∧
    wordsOfBytes [0x12, 0x34, 0x00, 0xFF, 0xA0, 0x01] = [0x1234, 0x00FF, 0xA001] ∧
    hearAnswer (.read 13 0x0040 3) (backToBackAnswer [0x12, 0x34, 0x00, 0xFF]) =
      .garbled [0x12, 0x34, 0x00, 0xFF, 0xBA] := by decide +kernel

/-- Section 3.5: A and B in one window are heard as their AND, which is GARBLED. -/
theorem test_two_devices_in_one_window :
    hearWindow (answerEdges 0 ([0x3A, 0x11, 0x00, 0xC0, 0x50, 0x90, 0x14, 0x82].map fun v => (v, 50))) = .garbled :=
  by decide +kernel

/-- Section 6.11: the AND of X and Y is the phantom Z, raw CLEAN in window 5. -/
theorem test_phantom :
    hearWindow (answerEdges 0 ([0x51, 0x20, 0, 0, 0, 0, 0x01, 0x8D].map fun v => (v, 50))) =
      .clean 0x512000000000 0x01 ∧
    judgeWindow [] 5 (.clean 0x512000000000 0x01) = .clean 0x512000000000 0x01 ∧
    checkOf (identityBytes devX.ident ++ [1]) &&& checkOf (identityBytes devY.ident ++ [1]) = 0x8D := by decide +kernel

/-- R102: a CLEAN identity in another window than its digit's is judged GARBLED. -/
theorem test_wrong_window_garbled : judgeWindow [] 4 (.clean 0x512000000000 0x01) = .garbled := by decide

/-- R41: a start bit validated at time 24 is in time, one validated after it is not. -/
theorem test_answer_start_limit :
    hearAnswer (.write 0 0 []) (answerEdges 2350 [(0, 50), (0xFF, 50)]) = .clean [0] ∧
    hearAnswer (.write 0 0 []) (answerEdges 2351 [(0, 50), (0xFF, 50)]) = .silent := by decide +kernel

/-- The feeds of section 2.8 in SERVING: pedestals 13 and 30, both feeds on, four samples over. -/
def feeds (run : Nat) : State :=
  { runIn .serving true true with
    feed := { logicOn := true, driveOn := true, pedLogic := 13, pedDrive := 30, sampling := true, run := run } }

/-- Section 2.8: ordinary serving. -/
theorem test_ordinary_sample :
    (nextOf (exec (.sampleCompletion 450 2100) (feeds 3))).map (fun t => (t.feed.live, t.feed.run)) =
      some (⟨450, 2100, 437, 2070, 2507⟩, 0) := by decide

/-- Section 2.8: sample s5 trips stage A. -/
theorem test_stage_a_trip :
    (nextOf (exec (.sampleCompletion 450 3100) (feeds 4))).map
        (fun t => (t.feed.trip, t.feed.driveOn, t.feed.latch, t.port.alert)) =
      some (⟨.a, ⟨false, true, false⟩, ⟨450, 3100, 437, 3070, 3507⟩, 5⟩, false, true, 16) := by decide

/-- Section 2.8: a LOGIC run of 20 trips stage B with DRIVE off and not counted. -/
theorem test_stage_b_trip :
    (nextOf (exec (.sampleCompletion 2213 530) { feeds 19 with
        feed := { (feeds 19).feed with driveOn := false, latch := true } })).map
        (fun t => (t.feed.trip.stage, t.feed.trip.readings.sum, t.feed.trip.runLength, t.feed.logicOn, t.given)) =
      some (.b, 2200, 20, false, [.stageBNotice]) := by decide

/-- Section 2.8: the eighth capture sample; the sums before it are 102 less 13 and 240 less 29. -/
theorem test_pedestals :
    (nextOf (exec (.sampleCompletion 13 29) { runIn .powering true true with
        feed := { sampling := true, capture := some ⟨7, 89, 211⟩ } })).map
        (fun t => (t.feed.pedLogic, t.feed.pedDrive, t.feed.pedHigh, t.feed.logicOn, t.given)) =
      some (13, 30, false, true, [.logicOnReport]) := by decide

/-- Section 2.8: a DRIVE channel of 300 gives a pedestal of 255 and PEDESTAL_HIGH. -/
theorem test_pedestal_high :
    (nextOf (exec (.sampleCompletion 13 300) { runIn .powering true true with
        feed := { sampling := true, capture := some ⟨7, 89, 2100⟩ } })).map
        (fun t => (t.feed.pedLogic, t.feed.pedDrive, t.feed.pedHigh)) = some (13, 255, true) := by decide

/-- Section 1.3: the first edge of the slow mate takes GEN from 2 to 4. -/
theorem test_slow_mate_first_edge :
    (nextOf (exec (.contactEdge .first true) { runIn .opened false false with
        port := { run := true, recGen := 2 } })).map
        (fun t => (t.cm.state, t.cm.settle, t.port.recGen)) = some (.making, some 20, 4) := by decide

/-- Section 1.3: the settle expiry with LAST open sets PARTIAL and leaves the timer stopped. -/
theorem test_slow_mate_partial :
    (nextOf (exec .settleExpiry { runIn .making true false with
        cm := { (runIn .making true false).cm with settle := some 20 } })).map
        (fun t => (t.cm.state, t.cm.partialMate, t.cm.settle)) = some (.making, true, none) := by decide

/-- The settings of section 10.6 as the host writes them, both contacts closed. -/
def badSettings : State :=
  { State.reset with
    cm := { first := true, last := true }
    port := { params := { settleMs := 0, logicLimit := 0, tripA := 30, tripB := 20, lineRate := 3 }
              classMap := ((Vector.replicate 64 ({} : ClassEntry)).set 20 ⟨19, 10, 3⟩).set 5 ⟨40, 70, 0⟩ |>.set 2 ⟨1, 4, 1⟩ } }

/-- Section 10.6: the parameter words and the class map after the clamp, the alerts and the coupling. -/
theorem test_run_entry_clamp :
    (nextOf (exec .runEntry badSettings)).map (fun t =>
        (t.readWord 1, t.readWord 12, t.readWord 15, t.readWord 16, t.readWord 0)) = some (1, 1, 30, 31, 2) ∧
    (nextOf (exec .runEntry badSettings)).map (fun t =>
        (t.port.classMap[20], t.port.classMap[2], t.port.classMap[5])) =
      some (⟨1, 62, 3⟩, ⟨1, 4, 1⟩, ⟨1, 62, 0⟩) ∧
    (nextOf (exec .runEntry badSettings)).map (fun t => (t.cm.state, t.cm.settle, t.port.alert)) =
      some (.making, some 1, 65) := by decide +kernel

/-- R138. -/
theorem test_ident : State.reset.readWord 0x500 = 0x2408 := by decide

/-- R140: a write of 1s clears those flags alone. -/
theorem test_alert_clear :
    (nextOf (exec (.alertClear 0x0005) { State.reset with port := { alert := 7 } })).map (·.port.alert) = some 2 := by
  decide

/-- R135: a parameter write in RUN is dropped with ALERT.MISUSE. -/
theorem test_parameter_write_in_run_dropped :
    (nextOf (exec (.hostWrite 1 5) (runIn .opened false false))).map
      (fun t => (t.port.params.settleMs, t.port.alert)) = some (20, 32) := by decide

/-- R145: a post with the ticket that TELL shows already is refused. -/
theorem test_repeated_ticket_refused :
    (nextOf (exec (.driveRequest 0 5) (withSlot { ticket := 5, phase := .done, kind := 9 } served))).map
      (fun t => ((t.slot 0).ask, (t.slot 0).phase, t.port.alert)) = some (0x0105, .done, 32) := by decide

/-- R146: a post accepted in HOLD ends NOT_RUNNING. -/
theorem test_post_in_hold :
    (nextOf (exec (.readRequest 0 5) State.reset)).map
      (fun t => ((t.slot 0).ticket, (t.slot 0).phase, (t.slot 0).result, t.port.alert)) =
      some (5, .done, .notRunning, 4) := by decide

/-- R33: DRIVE on in SERVING with LOGIC on. -/
theorem test_drive_on :
    (nextOf (exec (.driveRequest 0 5) (withSlot { kind := 9, argA := 1 }
      { served with feed := { logicOn := true } }))).map
      (fun t => (t.feed.driveOn, t.feed.discard, (t.slot 0).result, t.port.alert)) = some (true, true, .ok, 5) := by
  decide

/-- R154: a RESEAT is ON_LINE at once and the line clear it owes is in flight. -/
theorem test_reseat :
    (nextOf (exec (.reseatRequest 0 5) (withSlot { kind := 6 } served))).map
      (fun t => ((t.slot 0).phase, t.line.flight)) = some (.onLine, .clearLow) := by decide +kernel

/-- R79: an acknowledgement of a RETIRING entry frees the name and sends its RELEASE. -/
theorem test_acknowledge_retiring :
    (nextOf (exec (.acknowledgement 9 4) (withEntry 9 { gen := 4, state := .retiring, ident := devA.ident } served))).map
      (fun t => (t.entry 9, t.line.flight, t.port.seen[9])) =
      some ({ gen := 6, owed := true }, .releasing 9, 4) := by decide +kernel

/-- Section 6.11 step 2: the phantom's claim is granted with name 1, offered with GEN 2. -/
theorem test_claim_granted :
    (nextOf (exec (.windowEnd []) (withFlight (.windows ((List.replicate 15 .silent).set 5 (.clean 0x512000000000 1)))
      (withWalker { state := .walking, seeking := some [], counts := { seeks := 1 } } served)))).map
      (fun t => (t.line.flight, (t.entry 0).state, (t.entry 0).gen, (t.entry 0).ident)) =
      some (.sending .walker (.claim 0x512000000000 0), .offered, 2, 0x512000000000) := by decide +kernel

/-- Section 6.11 steps 3 and 4: a claim whose verifying ROLL is silent fails, "5" is pushed and the RELEASE is sent. -/
theorem test_claim_failed :
    (nextOf (exec (.answerEnd []) (withFlight (.listening .walker (.roll 0))
      (withEntry 0 { gen := 2, state := .offered, ident := 0x512000000000, cls := 1 }
      { withWalker { state := .walking, candidates := [⟨0x512000000000, 1⟩], counts := { seeks := 1 }
                     claim := some ⟨⟨0x512000000000, 1⟩, 0, .new, 0, 5⟩ } served with
        dir := { offer := some ⟨0, 0x512000000000, .new, {}⟩ } })))).map
      (fun t => (t.walker.stack, t.walker.candidates, t.entry 0, t.line.flight)) =
      some ([[5]], [], { gen := 4, owed := true }, .releasing 0) := by decide +kernel

/-- A coupling in a state whose line-held count runs, with the count and what is in flight. -/
def counting (count : Nat) (f : Flight) : State :=
  { served with line := { served.line with heldRunning := true, heldCount := count, flight := f } }

/-- R47: 64 released low bit times give the notice; a high one starts over; what the part drives in a call or a clear is
left out, and where it releases the line no bit time is driven by it. -/
theorem test_line_held_counts :
    (nextOf (exec (.lineHeld (List.replicate 64 .low)) (counting 0 .free))).map
      (fun t => (t.line.heldCount, t.line.heldRunning, t.given)) = some (64, false, [.lineHeldNotice]) ∧
    (nextOf (exec (.lineHeld (List.replicate 63 .low ++ [.high] ++ List.replicate 62 .low)) (counting 0 .free))).map
      (fun t => (t.line.heldCount, t.line.heldRunning, t.given)) = some (62, true, []) ∧
    (nextOf (exec (.lineHeld (List.replicate 63 .low ++ List.replicate 64 .driven))
      (counting 0 (.sending .walker (.seek []))))).map
      (fun t => (t.line.heldCount, t.line.heldRunning, t.given)) = some (63, true, []) ∧
    (nextOf (exec (.lineHeld [.driven]) (counting 7 (.windows [])))).map
      (fun t => (t.line.heldCount, t.line.heldRunning, t.given)) = some (8, true, []) ∧
    (nextOf (exec (.lineHeld (List.replicate 64 .low)) (counting 7 .clearLow))).map
      (fun t => (t.line.heldCount, t.line.heldRunning, t.given)) = some (7, true, []) := by decide +kernel

/-- R42: the receiver of a seek is off up to time 12 and waits from time 12 on. -/
theorem test_receiver_before_window_0 :
    (withFlight (.windows []) served).receiver 11 = .off ∧ (withFlight (.windows []) served).receiver 12 = .waiting ∧
    (withFlight (.listening .walker (.roll 0)) served).receiver 0 = .waiting ∧ served.receiver 0 = .off := by decide

/-- R121, R131: a serving notice taken after the coupling has left SERVING leaves the timer stopped. -/
theorem test_late_roll_serving_notice :
    (nextOf (exec .rollServingNotice (runIn .making true false))).map (fun t => t.roll.timer) = some none ∧
    (nextOf (exec .rollServingNotice served)).map (fun t => t.roll.timer) = some (some 100) := by decide

/-- R162: the tool loses LOGIC in the event of the soft hold. -/
theorem test_soft_hold_switches_off :
    (nextOf (exec .softHold (feeds 3))).map (fun t => (t.feed.logicOn, t.feed.driveOn, t.feed.run, t.cm.state)) =
      some (false, false, 0, .dormant) := by decide

/-- R48, R68, R156: the RELEASE of a MOVE that the coupling-lost notice has ended takes its name off the list. -/
theorem test_ended_move_leaves_release_list :
    (nextOf (exec .callSent (withFlight (.sending .requestUnit (.release 3))
      { served with line := { served.line with active := true, releases := [3] }
                    cm := { served.cm with state := .making } }))).map
      (fun t => (t.line.releases, t.line.flight)) = some ([], .free) := by decide +kernel

/-- R117: a clear sent in SERVING closes the running pass and starts a fresh one before the next grant. -/
theorem test_clear_sent_restarts_pass :
    (nextOf (exec .lineClearSent (withFlight .clearIdle
      (withWalker { state := .walking, stack := [[1]], candidates := [⟨devA.ident, devA.cls⟩] } served)))).map
      (fun t => (t.line.flight, t.walker.candidates, t.walker.record.result, t.walker.passNumber)) =
      some (.sending .walker (.seek []), [], .incomplete, 1) := by decide +kernel

/-! ### Witnesses: the whole block and the coupling monitor -/

theorem test_witness_StepRunsFrontCommand : State.reset.pending = [] := rfl

/-- The record that `HardResetRestoresDefaults` writes is a state, here by one field of each end of it. -/
theorem test_witness_HardResetRestoresDefaults :
    ∃ t : State, exec (.hardReset true false) served = .next t ∧ t.cm.first = true ∧ t.cm.last = false ∧ t.given = [] :=
  ⟨_, rfl, rfl, rfl, rfl⟩

theorem test_witness_EdgeInOpenStartsMaking :
    MonitorInv (runIn .opened false false) ∧ (runIn .opened false false).cm.state = .opened ∧
    ∀ x, (runIn .opened false false).cm.level x ≠ true :=
  ⟨by constructor <;> decide, rfl, by intro x; cases x <;> decide⟩

/-- MAKING with PARTIAL set, the settle timer stopped, FIRST closed. -/
def partMated : State :=
  { runIn .making true false with cm := { (runIn .making true false).cm with partialMate := true } }

theorem test_witness_EdgeInMakingRestartsSettle :
    MonitorInv partMated ∧ partMated.cm.state = .making ∧ partMated.cm.first ≠ false ∧ partMated.cm.last ≠ true :=
  ⟨by constructor <;> decide, rfl, by decide, by decide⟩

theorem test_witness_EdgeLosesCoupling :
    (MonitorInv (runIn .powering true true) ∧ (runIn .powering true true).cm.state.coupled = true ∧
      ∀ x, (runIn .powering true true).cm.level x ≠ false) ∧
    (MonitorInv (runIn .serving true true) ∧ (runIn .serving true true).cm.state.coupled = true ∧
      ∀ x, (runIn .serving true true).cm.level x ≠ false) :=
  ⟨⟨by constructor <;> decide, rfl, by intro x; cases x <;> decide⟩,
    ⟨by constructor <;> decide, rfl, by intro x; cases x <;> decide⟩⟩

/-- FAULTED with cause POWER, FIRST closed. -/
def faulted : State :=
  { runIn .faulted true false with cm := { (runIn .faulted true false).cm with cause := .power } }

theorem test_witness_EdgeInDormantAndFaulted :
    (MonitorInv State.reset ∧ State.reset.cm.state = .dormant) ∧
    (MonitorInv faulted ∧ faulted.cm.state = .faulted ∧ faulted.cm.first ≠ false ∧ faulted.cm.last ≠ true ∧
      faulted.cm.level .first = true) :=
  ⟨⟨by constructor <;> decide, rfl⟩, ⟨by constructor <;> decide, rfl, by decide, by decide, rfl⟩⟩

/-- MAKING with the settle timer running and contacts at two levels. -/
def settling (f l : Bool) : State :=
  { runIn .making f l with cm := { (runIn .making f l).cm with settle := some 20 } }

theorem test_witness_SettleExpiryOutcomes :
    (∀ f l, MonitorInv (settling f l) ∧ (settling f l).cm.settle ≠ none) ∧
    ((settling true true).cm.first = true ∧ (settling true true).cm.last = true) ∧
    ((settling false false).cm.first = false ∧ (settling false false).cm.last = false) ∧
    (settling true false).cm.first ≠ (settling true false).cm.last :=
  ⟨by intro f l; cases f <;> cases l <;> exact ⟨by constructor <;> decide, by decide⟩, by decide, by decide, by decide⟩

theorem test_witness_PoweringReachesDiscovering :
    (runIn .powering true true).cm.state = .powering ∧ (runIn .opened false false).cm.state ≠ .powering ∧
    ∃ s : State, s.cm.state = .powering ∧ s.cm.powerWait ≠ none :=
  ⟨rfl, by decide, { State.reset with cm := { state := .powering, powerWait := some 150 } }, rfl, by decide⟩

theorem test_witness_PassEndEntersServing :
    (runIn .discovering true true).cm.state = .discovering ∧ (runIn .serving true true).cm.state = .serving ∧
    ((runIn .making true true).cm.state ≠ .discovering ∧ (runIn .making true true).cm.state ≠ .serving) ∧
    ∃ s : State, s.cm.state = .serving ∧ s.cm.passRetry ≠ none :=
  ⟨rfl, rfl, by decide, { State.reset with cm := { state := .serving, passRetry := some 20 } }, rfl, by decide⟩

theorem test_witness_FaultEntry :
    (MonitorInv (runIn .serving true true) ∧ (runIn .serving true true).cm.state.coupled = true ∧
      (runIn .serving true true).cm.state.lineOn = true) ∧
    (MonitorInv (runIn .powering true true) ∧ (runIn .powering true true).cm.state.coupled = true ∧
      (runIn .powering true true).cm.state.lineOn = false) ∧
    (MonitorInv faulted ∧ faulted.cm.state.coupled = false) :=
  ⟨⟨by constructor <;> decide, rfl, rfl⟩, ⟨by constructor <;> decide, rfl, rfl⟩, ⟨by constructor <;> decide, rfl⟩⟩

/-! ### Witnesses: the feed supervisor -/

/-- The invariant of the feeds of section 2.8 holds at every run counter up to 255. -/
theorem feeds_inv (k : Nat) (h : k ≤ 255) : FeedInv (feeds k) where
  drive := fun _ => ⟨rfl, rfl⟩
  pedestals := ⟨show 13 ≤ 255 by decide, show 30 ≤ 255 by decide⟩
  run := h
  capture := by intro c h; cases h
  tripped := by intro h; cases h
  frozen := by intro h; cases h
  limits := show Limits.inRange {} by unfold Limits.inRange; decide

/-- Every hypothesis on the numbers of a sample whose raw DRIVE is `rd`, with the run counter at k before it. -/
theorem test_sample_numbers (k : Nat) (rd : BitVec 12) : ∃ cl cd sum run : Nat, ∃ hitL hitD hitS : Bool,
    cl = (450#12).toNat - 13 ∧ cd = rd.toNat - 30 ∧ sum = cl + cd ∧ hitL = (true && decide (2000 ≤ cl)) ∧
    hitD = (true && decide (3000 ≤ cd)) ∧ hitS = decide (4500 ≤ sum) ∧
    run = (if hitL = true ∨ hitD = true ∨ hitS = true then min 255 (k + 1) else 0) :=
  ⟨_, _, _, _, _, _, _, rfl, rfl, rfl, rfl, rfl, rfl, rfl⟩

/-- With `test_sample_numbers` for the numbers. Stage B is met at a run of 20, stage A at 5 (and at 19 with the latch clear), neither at 4. -/
theorem test_witness_ComparedSample :
    (∀ k ≤ 255, FeedInv (feeds k)) ∧
    (∀ k, (feeds k).feed.sampling = true ∧ (feeds k).feed.capture = none ∧ (feeds k).feed.discard = false) ∧
    (feeds 19).feed.limits.tripB ≤ 19 + 1 ∧
    (4 + 1 < (feeds 4).feed.limits.tripB ∧ (feeds 4).feed.limits.tripA ≤ 4 + 1 ∧ (feeds 4).feed.latch = false) ∧
    (18 + 1 < (feeds 18).feed.limits.tripB ∧ (feeds 18).feed.limits.tripA ≤ 18 + 1) ∧
    (3 + 1 < (feeds 3).feed.limits.tripB ∧ 3 + 1 < (feeds 3).feed.limits.tripA) :=
  ⟨feeds_inv, by intro k; exact ⟨rfl, rfl, rfl⟩, by decide, by decide, by decide, by decide⟩

theorem test_witness_PedestalCapture :
    ∃ (s : State) (xs : List (BitVec 12 × BitVec 12)), xs.length = 8 ∧ s.feed.sampling = true ∧
      s.feed.capture = some ⟨0, 0, 0⟩ ∧ s.feed.logicOn = false ∧
      13 = ((xs.map fun x => x.1.toNat).sum + 4) / 8 ∧ 30 = ((xs.map fun x => x.2.toNat).sum + 4) / 8 :=
  ⟨{ State.reset with feed := { sampling := true, capture := some ⟨0, 0, 0⟩ } },
    [(12, 30), (13, 31), (12, 29), (14, 30), (13, 30), (12, 31), (13, 30), (13, 29)], by decide⟩

theorem test_witness_FeedNotices :
    ((runIn .powering true true).cm.state = .powering ∧ (runIn .making true false).cm.state ≠ .powering) ∧
    (∃ s : State, s.feed.sampling = true ∧ s.feed.capture = none ∧ s.feed.discard = true) ∧
    State.reset.feed.sampling = false ∧
    (State.reset.feed.logicOn = false ∧ State.reset.feed.driveOn = false ∧
      (State.reset.feed.latch = false ∨ LossReason.hold ≠ .decoupled)) ∧
    (feeds 0).feed.logicOn = true ∧ (feeds 0).feed.driveOn = true ∧
    ∃ s : State, s.feed.logicOn = false ∧ s.feed.latch = true ∧ LossReason.decoupled = .decoupled :=
  ⟨by decide, ⟨{ State.reset with feed := { sampling := true, discard := true } }, by decide⟩, rfl, by decide, rfl, rfl,
    { State.reset with feed := { latch := true } }, by decide⟩

/-! ### Witnesses: the line unit -/

theorem test_witness_LineActiveGrantsClear :
    ((runIn .discovering true true).line.flight = .free ∧ (runIn .discovering true true).cm.state = .discovering ∧
      served.cm.state = .serving) ∧
    ((withFlight .clearLow served).line.flight ≠ .free ∧ (runIn .making true true).cm.state ≠ .discovering ∧
      (runIn .making true true).cm.state ≠ .serving) := by decide

theorem test_witness_LineStandsDown :
    (∃ c : Instr, c = .lineInactiveNotice ∨ ∃ r, c = .lineCouplingLost r) ∧
    (∃ r, Instr.lineCouplingLost .hold = .lineCouplingLost r) ∧
    (withFlight (.sending .walker (.seek [])) served).line.flight = .sending .walker (.seek []) ∧
    (withFlight (.listening .rollCaller (.roll 0)) served).line.flight = .listening .rollCaller (.roll 0) ∧
    (withFlight (.gap .requestUnit (.roll 61)) served).line.flight = .gap .requestUnit (.roll 61) ∧
    (withFlight (.windows []) served).line.flight = .windows [] ∧
    served.line.flight = .free ∧ (withFlight .clearLow served).line.flight = .clearLow ∧
    (withFlight .clearIdle served).line.flight = .clearIdle ∧
    (∃ n, (withFlight (.releasing 3) served).line.flight = .releasing n) ∧
    (∀ k f, (counting k f).line.heldRunning = true ∧ (counting k f).line.heldCount = k ∧ (counting k f).line.flight = f) ∧
    (62 < 63 ∧ 63 < 64 ∧ Flight.free ≠ .clearLow) ∧ served.line.heldRunning = false ∧
    (served.roll.hand = none ∧ ({ served with roll := { hand := some ⟨10, .bound, devB.ident, 1⟩ } } : State).roll.hand =
      some ⟨10, .bound, devB.ident, 1⟩) ∧
    ((∃ by_ k, Flight.sending .walker (.seek []) = .sending by_ k) ∧ (∃ n, Flight.releasing 3 = .releasing n) ∧
      (∀ by_ k, Flight.windows [] ≠ .sending by_ k) ∧ ∀ n, Flight.windows [] ≠ .releasing n) :=
  ⟨⟨_, .inl rfl⟩, ⟨_, rfl⟩, rfl, rfl, rfl, rfl, rfl, rfl, rfl, ⟨_, rfl⟩, fun _ _ => ⟨rfl, rfl, rfl⟩, by decide, rfl,
    ⟨rfl, rfl⟩, ⟨_, _, rfl⟩, ⟨_, rfl⟩, (by intro b k h; cases h), by intro n h; cases h⟩

/-- The rotation places and the work of the claimants, as `GrantOrder` asks for them. -/
def placeOf : Claimant → Nat
  | .walker => 0
  | .rollCaller => 1
  | .requestUnit => 2
def worksIn (s : State) : Claimant → Prop
  | .walker => s.walker.state = .sweepDue ∨
      (s.walker.state = .walking ∧ (s.walker.candidates ≠ [] ∨ s.walker.stack ≠ []))
  | .rollCaller => s.line.serving = true ∧ s.roll.due ≠ []
  | .requestUnit => s.line.serving = true ∧ s.req.postOrder ≠ []

theorem test_witness_GrantOrder :
    (placeOf .walker = 0 ∧ placeOf .rollCaller = 1 ∧ placeOf .requestUnit = 2) ∧
    (∀ s : State, (worksIn s .walker ↔ s.walker.state = .sweepDue ∨
        (s.walker.state = .walking ∧ (s.walker.candidates ≠ [] ∨ s.walker.stack ≠ []))) ∧
      (worksIn s .rollCaller ↔ s.line.serving = true ∧ s.roll.due ≠ []) ∧
      (worksIn s .requestUnit ↔ s.line.serving = true ∧ s.req.postOrder ≠ [])) ∧
    ({ served with line := { served.line with clearOwed := true } } : State).line.clearOwed = true ∧
    (∃ s : State, s.line.clearOwed = false ∧ s.line.releases = 3 :: [4]) ∧
    (served.line.clearOwed = false ∧ served.line.releases = [] ∧ ∀ c, ¬ worksIn served c) ∧
    (∃ s : State, s.line.clearOwed = false ∧ s.line.releases = [] ∧ worksIn s .rollCaller ∧ worksIn s .requestUnit) :=
  ⟨⟨rfl, rfl, rfl⟩, fun _ => ⟨Iff.rfl, Iff.rfl, Iff.rfl⟩, rfl,
    ⟨{ served with line := { served.line with releases := [3, 4] } }, rfl, rfl⟩,
    ⟨rfl, rfl, by intro c; cases c <;> simp [worksIn, served, runIn, State.reset]⟩,
    { served with roll := { due := [0] }, req := { postOrder := [0] } }, rfl, rfl, by simp [worksIn, served],
    by simp [worksIn, served]⟩

theorem test_witness_GrantDecisionIsComplete :
    (served.line.active = true ∧ served.cm.state = .serving ∧ served.decideGrant.line.flight = .free) ∧
    ((withWalker { state := .walking, stack := [[]] } served).line.flight = .free ∧
      (withWalker { state := .walking, stack := [[]] } served).nextGrant = some (.rotation .walker)) ∧
    State.reset.line.active = false ∧ (withFlight .clearLow served).line.flight ≠ .free ∧
    ((runIn .making true true).cm.state ≠ .discovering ∧ (runIn .making true true).cm.state ≠ .serving) := by
  decide +kernel

/-- SERVING with a roll of names 4 and 5 due, entry 4 freed since and entry 5 BOUND. -/
def rollDue : State :=
  withEntry 4 { state := .bound, ident := devA.ident } { served with roll := { due := [3, 4], inProgress := true } }

/-- A request of slot 0 waits at the head of the post-order list, entry 1 in a state. -/
def waits (st : EntryState) (q : LineRequest) (s : State) : State :=
  withEntry 0 { state := st, ident := devA.ident } <| withSlot { phase := .waiting, latched := some q, wait := some 500 }
    { s with req := { postOrder := [0] } }

/-- With `test_witness_GrantEffects_requests` for the request unit's clauses. -/
theorem test_witness_GrantEffects :
    (served.line.active = true ∧ served.cm.state = .serving ∧ served.line.flight = .free) ∧
    ({ served with line := { served.line with clearOwed := true } } : State).nextGrant = some .lineClear ∧
    ({ served with line := { served.line with releases := [3] } } : State).nextGrant = some (.release 3) ∧
    ((withWalker { state := .walking, stack := [[]] } served).nextGrant = some (.rotation .walker) ∧
      (withWalker { state := .walking, stack := [[]] } served).walker.candidates = []) ∧
    (withWalker { state := .sweepDue } served).nextGrant = some (.rotation .walker) ∧
    (rollDue.line.active = true ∧ rollDue.line.flight = .free ∧ rollDue.nextGrant = some (.rotation .rollCaller) ∧
      rollDue.roll.due.filter (fun m => decide ((rollDue.entry m).state = .bound ∨ (rollDue.entry m).state = .held ∨
        (rollDue.entry m).state = .stale)) = 4 :: []) ∧
    (({ served with roll := { due := [3], inProgress := true } } : State).nextGrant = some (.rotation .rollCaller) ∧
      ∀ n ∈ [(3 : Name)], (served.entry n).state ≠ .bound ∧ (served.entry n).state ≠ .held ∧
        (served.entry n).state ≠ .stale) := by decide +kernel

/-- A READ, a WRITE and a MOVE of entry 1 in each state, and a MOVE to a free name and to one that is not. -/
theorem test_witness_GrantEffects_requests :
    (∀ q ∈ [LineRequest.read 0 0 1, .write 0 0 [5], .move 0 61], ∀ st ∈ [EntryState.bound, .held, .offered, .disputed,
        .vacant, .stale, .retiring],
      (waits st q served).line.active = true ∧ (waits st q served).cm.state = .serving ∧
      (waits st q served).line.flight = .free ∧ (waits st q served).nextGrant = some (.rotation .requestUnit) ∧
      (waits st q served).req.postOrder = 0 :: [] ∧ ((waits st q served).slot 0).latched = some q ∧
      ((waits st q served).entry 0).state = st ∧ ((waits st q served).entry 61).state = .vacant ∧
      ((waits st q served).entry 61).owed = false) ∧
    ((withEntry 61 { owed := true } (waits .bound (.move 0 61) served)).nextGrant = some (.rotation .requestUnit) ∧
      ((withEntry 61 { owed := true } (waits .bound (.move 0 61) served)).entry 0).state = .bound ∧
      ((withEntry 61 { owed := true } (waits .bound (.move 0 61) served)).entry 61).owed = true) := by decide +kernel

/-- A READ of entry 1, BOUND, waits at the head of the post-order list; `told` is the line unit's view of SERVING. -/
def readWaits (told : Bool) : State :=
  withEntry 0 { state := .bound, ident := devA.ident } <| withSlot
    { ticket := 1, phase := .waiting, kind := 1, name := 1, count := 1, latched := some (.read 0 0 1), wait := some 500 }
    { served with line := { served.line with serving := told }, req := { postOrder := [0] } }

theorem test_witness_ServingNoticesEitherOrder :
    ∀ told, (readWaits told).line.active = true ∧ (readWaits told).cm.state = .serving ∧
      (readWaits told).line.flight = .free ∧
      (readWaits told).line.clearOwed = false ∧ (readWaits told).line.releases = [] ∧
      (readWaits told).walker.state = .idle ∧ (readWaits told).roll.due = [] ∧
      (readWaits told).req.postOrder = 0 :: [] ∧ ((readWaits told).slot 0).latched = some (.read 0 0 1) ∧
      ((readWaits told).entry 0).state = .bound ∧ (readWaits told).line.serving = told := by
  intro told; cases told <;> decide +kernel

/-- A line with a group in flight, one with no claim, one of the next coupling in DISCOVERING, and one no longer active, for
the line unit's serving notice; a request that waits and none for the request unit's. -/
theorem test_witness_ServingNoticesEitherOrder_elsewhere :
    ((withFlight .clearLow served).line.active = true ∧ (withFlight .clearLow served).line.flight ≠ .free) ∧
    (served.line.active = true ∧ served.nextGrant = none ∧ served.req.postOrder = []) ∧
    (({ served with cm := { served.cm with state := .discovering } } : State).line.active = true ∧
      ({ served with cm := { served.cm with state := .discovering } } : State).cm.state ≠ .serving) ∧
    State.reset.line.active = false ∧ (readWaits true).req.postOrder ≠ [] := by decide +kernel

/-- A ROLL of name 10 at some point of its call group, with the roll caller's call in hand or without it. -/
def rollAt (f : Flight) (hand : Option RollCall) : State := withFlight f { served with roll := { hand := hand } }

theorem test_witness_CallSentByKind :
    (∀ hand, (rollAt (.sending .rollCaller (.roll 10)) hand).line.flight = .sending .rollCaller (.roll 10) ∧
      (rollAt (.sending .rollCaller (.roll 10)) hand).roll.hand = hand ∧ (Call.roll 10).answerLength ≠ 0) ∧
    ((none : Option RollCall) = none ∧ some (⟨10, .bound, devB.ident, 1⟩ : RollCall) ≠ none) ∧
    ((withFlight (.sending .walker (.seek [])) served).line.flight = .sending .walker (.seek []) ∧
      Claimant.walker ≠ .rollCaller ∧ Claimant.requestUnit ≠ .rollCaller) ∧
    (withFlight (.releasing 0) served).line.flight = .releasing 0 ∧
    (∀ e : Entry, e ∈ [{ owed := true }, { state := .disputed, owed := true }, { state := .bound }, {}] →
      (withEntry 0 e (withFlight (.releasing 0) served)).entry 0 = e) ∧
    (served.dir.ackMask.conflict = false ∧
      ({ served with dir := { ackMask := ⟨false, false, true, true⟩ } } : State).dir.ackMask.conflict = true) ∧
    ((withFlight (.sending .requestUnit (.release 3)) served).line.flight = .sending .requestUnit (.release 3) ∧
      (withFlight (.sending .requestUnit (.release 3)) served).req.hand = none) :=
  ⟨fun _ => ⟨rfl, rfl, by decide⟩, by decide, by decide +kernel⟩

/-- R131: after the roll caller's coupling-lost notice a ROLL in its call gap is not sent. -/
theorem test_no_roll_after_loss :
    (nextOf (exec .callGapEnd (rollAt (.gap .rollCaller (.roll 10)) none))).map (·.line.flight) = some .free := by
  decide +kernel

/-- What a line clear makes of an entry under ACK_MASK.CONFLICT as `conflict` and a KEEP_ROUNDS of `rounds`. -/
def clearedEntry (conflict : Bool) (rounds : Nat) (e : Entry) : Entry :=
  if e.state = .bound ∨ e.state = .held then { e with gen := e.gen + 2, state := .stale, strikes := 0, keep := rounds }
  else if e.state = .disputed then
    if conflict then { e with gen := e.gen + 2, state := .retiring, owed := false } else { gen := e.gen + 2, state := .vacant }
  else if e.state = .vacant ∧ e.owed = true then { e with gen := e.gen + 2, owed := false }
  else e

theorem test_clearedEntry (k : Bool) (rounds : Nat) (e : Entry) :
    (e.state = .bound ∨ e.state = .held → clearedEntry k rounds e = { e with
      gen := e.gen + 2, state := .stale, strikes := 0, keep := rounds }) ∧
    (e.state = .disputed → k = true →
      clearedEntry k rounds e = { e with gen := e.gen + 2, state := .retiring, owed := false }) ∧
    (e.state = .disputed → k = false → clearedEntry k rounds e = { gen := e.gen + 2, state := .vacant }) ∧
    (e.state = .vacant → e.owed = true → clearedEntry k rounds e = { e with gen := e.gen + 2, owed := false }) ∧
    ((e.state = .vacant ∧ e.owed = false) ∨ e.state = .offered ∨ e.state = .stale ∨ e.state = .retiring →
      clearedEntry k rounds e = e) := by
  unfold clearedEntry
  refine ⟨fun h => by simp [h], fun h hk => by simp [h, hk], fun h hk => by simp [h, hk], fun h ho => by simp [h, ho], ?_⟩
  rintro (⟨h, ho⟩ | h | h | h)
  · simp [h, ho]
  all_goals simp [h]

/-- With `test_clearedEntry` for what the clear makes of the entries. -/
theorem test_witness_LineTimers :
    ((withFlight (.gap .walker (.roll 0)) served).line.flight = .gap .walker (.roll 0) ∧ Claimant.walker ≠ .rollCaller) ∧
    ((rollAt (.gap .rollCaller (.roll 10)) none).line.flight = .gap .rollCaller (.roll 10) ∧
      (rollAt (.gap .rollCaller (.roll 10)) none).roll.hand = none) ∧
    (∃ c : Instr, c = .callSent ∨ (∃ e, c = .answerEnd e) ∨ (∃ e, c = .windowEnd e)) ∧
    (withFlight .clearLow served).line.flight = .clearLow ∧
    ((withFlight .clearIdle served).line.flight = .clearIdle ∧ (withFlight .clearIdle served).walker.state ≠ .walking) ∧
    ((withFlight .clearIdle (withWalker { state := .walking } served)).line.flight = .clearIdle ∧
      (withFlight .clearIdle (withWalker { state := .walking } served)).walker.state = .walking ∧
      (withFlight .clearIdle (withWalker { state := .walking } served)).cm.state ≠ .discovering) ∧
    ((withFlight .clearIdle (withWalker { state := .walking } (runIn .discovering true true))).line.flight = .clearIdle ∧
      (withFlight .clearIdle (withWalker { state := .walking } (runIn .discovering true true))).walker.state = .walking ∧
      (withFlight .clearIdle (withWalker { state := .walking } (runIn .discovering true true))).cm.state = .discovering) ∧
    ((withFlight (.windows (List.replicate 14 .silent)) served).line.flight = .windows (List.replicate 14 .silent) ∧
      (List.replicate 14 Window.silent).length < 15) ∧
    ((withFlight (.windows (List.replicate 15 .silent)) served).line.flight = .windows (List.replicate 15 .silent) ∧
      (List.replicate 15 Window.silent).length = 15) :=
  ⟨⟨rfl, by decide⟩, ⟨rfl, rfl⟩, ⟨_, .inl rfl⟩, rfl, by decide, by decide, by decide, ⟨rfl, by decide⟩, rfl, by decide⟩

/-- The bounds of the lengths: a seek of 11 digits, a READ of 255 words, a WRITE of 255. -/
theorem test_witness_CallFrames :
    (List.replicate 11 (15 : Digit)).length ≤ 11 ∧ 255 ≤ 255 ∧ (List.replicate 255 (0 : Word)).length ≤ 255 ∧
    ∃ word : Word → List Nat, ∀ w : Word, word w = [w.toNat / 256, w.toNat % 256] :=
  ⟨by decide, by decide, by decide +kernel, _, fun _ => rfl⟩

theorem test_witness_CompliantAnswerHeardClean :
    (({ devA with name := some 0 } : Device).answer [] (.roll 0) =
        some (withCheck (identityBytes devA.ident ++ [devA.cls, devA.status]))) ∧
    (∀ p, Call.roll 0 ≠ .seek p) ∧ (∀ n a k, Call.roll 0 = .read n a k → ([] : List Word).length = k) ∧
    2300 ≤ 2300 ∧ (List.replicate 9 2150).length =
      (withCheck (identityBytes devA.ident ++ [devA.cls, devA.status])).length ∧
    (∀ g ∈ List.replicate 9 2150, g ≤ 2150) ∧
    (({ devA with name := some 13 } : Device).answer [0x1234] (.read 13 0 1) = some [0x12, 0x34, 0xB9] ∧
      [(0x1234 : Word)].length = 1) ∧
    ((counting 53 (.listening .walker (.roll 0))).line.heldRunning = true ∧
      (counting 53 (.listening .walker (.roll 0))).line.heldCount ≤ 53 ∧ [((0 : Byte), 0), (0xFF, 3)] ≠ []) ∧
    (answerChars (.roll 0) [] = [] ∧ answerChars (.roll 0) halfAnswer ≠ [] ∧
      (answerChars (.roll 0) halfAnswer).length ≠ (Call.roll 0).answerLength) ∧
    (answerChars (.write 0 0 []) (backToBackAnswer [0]) = [⟨0, false, true⟩, ⟨0xFF, false, true⟩] ∧
      ((0 : Byte).toNat + (0xFF : Byte).toNat) % 256 = 255) :=
  ⟨by decide, (by intro p h; cases h), (by intro n a k h; cases h), by decide, by decide, by decide, by decide, by decide,
    by decide +kernel, by decide +kernel⟩

theorem test_witness_CompliantSeekAnswerHeardClean :
    devA.answer [] (.seek []) = some (withCheck (identityBytes devA.ident ++ [devA.cls])) ∧
    devA.answer [] (.seek ((identityDigits devA.ident).take 11)) =
      some (withCheck (identityBytes devA.ident ++ [devA.cls])) ∧
    ((identityDigits devA.ident).take 11).length ≤ 11 ∧ devA.ident ≠ 0 ∧ devA.ident ≠ BitVec.allOnes 48 ∧ 800 ≤ 800 := by
  decide +kernel

/-- What a window's classes ask for: nothing received; A's answer; half an answer; a frame open at the end, whose falling
edge comes 10.5 bit times before it; and the last falling edges that a start bit can and cannot be validated for. -/
theorem test_witness_CompliantSeekAnswerHeardClean_classes :
    receiveWindow 0 [] = ([], false) ∧
    (∃ cs, receiveWindow 0 (backToBackAnswer (identityBytes devA.ident ++ [devA.cls])) = (cs, false) ∧ cs.length = 8 ∧
      (∀ x ∈ cs, x.framed = true ∧ x.marker = false) ∧ (cs.map fun x => x.value.toNat).sum % 256 = 255 ∧
      devA.ident.toNat = (cs.take 6).foldl (fun n x => 256 * n + x.value.toNat) 0 ∧ cs[6]?.map RxChar.value = some devA.cls) ∧
    (∃ cs, receiveWindow 0 halfAnswer = (cs, false) ∧ cs ≠ [] ∧ cs.length ≠ 8) ∧
    receiveWindow 0 [startEdge 8550 0] = ([], true) ∧ (receiveWindow 0 [startEdge 8549 0]).2 = false ∧
    ((startEdge 9549 0).low = true ∧ (startEdge 9549 0).time < 9550) ∧
    (∀ e ∈ [startEdge 9550 0, ⟨200, false, 0, true, true⟩], e.low = false ∨ 9550 ≤ e.time) :=
  ⟨rfl, ⟨(receiveWindow 0 (backToBackAnswer (identityBytes devA.ident ++ [devA.cls]))).1, by decide +kernel⟩,
    ⟨(receiveWindow 0 halfAnswer).1, by decide +kernel⟩, by decide +kernel, by decide +kernel, by decide, by decide⟩

/-! ### Witnesses: answers at the claimants -/

/-- A claim of B for a name, found at length len, with a name context and the offer it rests on. -/
def claiming (len : Nat) (k : OfferKind) (stack : List Prefix) (f : Flight) : State :=
  withFlight f <| withEntry 10 { gen := 2, state := .offered, ident := devB.ident, cls := devB.cls }
    { withWalker { state := .walking, stack := stack, candidates := [⟨devB.ident, devB.cls⟩]
                   claim := some ⟨⟨devB.ident, devB.cls⟩, 10, k, len, digitAt devB.ident len⟩ } served with
      dir := { offer := some ⟨10, devB.ident, k, {}⟩ } }

/-- What is heard: B accepts name 11, answers name 11, A answers instead. -/
def acceptB : List Byte := identityBytes devB.ident ++ [devB.cls, nameByte 10]
def rollB : List Byte := identityBytes devB.ident ++ [devB.cls, 7]
def rollA : List Byte := identityBytes devA.ident ++ [devA.cls, 7]

theorem test_witness_answers :
    (hearAnswer (.claim devB.ident 10) (heard devB (nameByte 10)) = .clean acceptB ∧
      identityOfBytes (acceptB.take 6) = devB.ident ∧ acceptB.getD 7 0 = nameByte 10) ∧
    (hearAnswer (.claim devB.ident 10) (heard devA 11) = .clean (identityBytes devA.ident ++ [devA.cls, 11]) ∧
      identityOfBytes ((identityBytes devA.ident ++ [devA.cls, (11 : Byte)]).take 6) ≠ devB.ident) ∧
    (∀ vals, hearAnswer (.claim devB.ident 10) [] = .clean vals →
      identityOfBytes (vals.take 6) ≠ devB.ident ∨ vals.getD 7 0 ≠ nameByte 10) ∧
    hearAnswer (.claim devB.ident 10) [] = .silent ∧ hearAnswer (.claim devB.ident 10) halfAnswer = .garbled [0x3A] ∧
    (hearAnswer (.roll 10) (heard devB 7) = .clean rollB ∧ identityOfBytes (rollB.take 6) = devB.ident) ∧
    (hearAnswer (.roll 10) (heard devA 7) = .clean rollA ∧ identityOfBytes (rollA.take 6) ≠ devB.ident) ∧
    hearAnswer (.roll 10) [] = .silent ∧ hearAnswer (.roll 10) halfAnswer = .garbled [0x3A] :=
  ⟨by decide +kernel, by decide +kernel, (by intro vals h; cases h), by decide +kernel, by decide +kernel, by decide +kernel, by decide +kernel,
    by decide +kernel, by decide +kernel⟩

/-- With `test_witness_answers` for what is heard. -/
theorem test_witness_WalkerClaimGroup :
    (∀ len k stack f, (claiming len k stack f).walker.claim =
        some ⟨⟨devB.ident, devB.cls⟩, 10, k, len, digitAt devB.ident len⟩ ∧
      (claiming len k stack f).walker.candidates = ⟨devB.ident, devB.cls⟩ :: [] ∧
      (claiming len k stack f).walker.stack = stack ∧ (claiming len k stack f).line.flight = f) ∧
    (OfferKind.new ≠ .move ∧ OfferKind.ret ≠ .move ∧ OfferKind.reclaim ≠ .move) ∧
    (10 ≤ 10 ∧ (List.replicate 23 ([1] : Prefix)).length < 24) ∧
    (List.replicate 24 ([1] : Prefix)).length = 24 :=
  ⟨fun _ _ _ _ => ⟨rfl, rfl, rfl, rfl⟩, by decide, by decide, by decide⟩

/-- With `test_witness_answers` for what is heard. -/
theorem test_witness_WalkerClaimDispute :
    (∀ s ∈ [claiming 0 .new [] (.listening .walker (.roll 10)),
        withEntry 10 { state := .held, ident := devB.ident } (claiming 0 .reclaim [] (.listening .walker (.roll 10)))],
      s.walker.claim.isSome = true ∧ s.walker.candidates = ⟨devB.ident, devB.cls⟩ :: [] ∧
      s.line.flight = .listening .walker (.roll 10) ∧ s.walker.state = .walking) ∧
    (∀ st ∈ [WalkerState.awaitClear, .sweeping],
      ({ claiming 0 .new [] (.listening .walker (.roll 10)) with
          walker := { (claiming 0 .new [] (.listening .walker (.roll 10))).walker with state := st } } : State).walker.state = st) ∧
    ((claiming 0 .new [] (.listening .walker (.roll 10))).dir.offer = some ⟨10, devB.ident, .new, {}⟩ ∧
      ((claiming 0 .new [] (.listening .walker (.roll 10))).entry 10).state = .offered) ∧
    ((claiming 0 .reclaim [] (.listening .walker (.roll 10))).dir.offer = some ⟨10, devB.ident, .reclaim, {}⟩ ∧
      ((withEntry 10 { state := .held, ident := devB.ident }
        (claiming 0 .reclaim [] (.listening .walker (.roll 10)))).entry 10).state = .held) := by decide +kernel

/-- A roll of name 11 on the line, the entry in a state at the grant, with its counts, attempts made and names due. -/
def rolling (st : EntryState) (strikes keep attempts : Nat) (due : List Name) : State :=
  withFlight (.listening .rollCaller (.roll 10)) <|
    withEntry 10 { state := st, ident := devB.ident, strikes := strikes, keep := keep }
      { served with roll := { due := due, inProgress := true, hand := some ⟨10, st, devB.ident, attempts⟩ } }

/-- With `test_witness_answers` for what is heard. Strikes of 1 and 2 stand on the two sides of STRIKE_LIMIT 3, a KEEP
of 2 and 1 on the two sides of expiry, attempts of 1 and 2 on the two sides of CALL_RETRIES 1. -/
theorem test_witness_RollCallOutcome :
    (∀ st k m a due, (rolling st k m a due).line.flight = .listening .rollCaller (.roll 10) ∧
      (rolling st k m a due).roll.hand = some ⟨10, st, devB.ident, a⟩) ∧
    ((rolling .bound 1 0 2 [10]).roll.due.filter (fun m => m ≠ 10) = [] ∧
      (rolling .bound 1 0 2 [10, 11]).roll.due.filter (fun m => m ≠ 10) ≠ []) ∧
    ((rolling .bound 1 0 2 [10]).entry 10).strikes + 1 < (rolling .bound 1 0 2 [10]).roll.strikeLimit ∧
    (rolling .held 2 0 2 [10]).roll.strikeLimit ≤ ((rolling .held 2 0 2 [10]).entry 10).strikes + 1 ∧
    2 ≤ ((rolling .stale 0 2 2 [10]).entry 10).keep ∧ ((rolling .stale 0 1 2 [10]).entry 10).keep ≤ 1 ∧
    (1 ≤ (rolling .bound 1 0 1 [10]).callRetries ∧ (rolling .bound 1 0 2 [10]).callRetries < 2) ∧
    (EntryState.bound ≠ .stale ∧ EntryState.held ≠ .stale) := by
  refine ⟨fun _ _ _ _ _ => ⟨rfl, rfl⟩, ?_⟩
  decide +kernel

/-- A request of slot 0 on the line. -/
def onLine (f : Flight) (h : RequestCall) (q : LineRequest) : State :=
  withFlight f <| withSlot { ticket := 1, phase := .onLine, latched := some q } { served with req := { hand := some h } }

theorem test_witness_ReadAndWriteOutcomes :
    (∀ f h q, (onLine f h q).req.hand = some h ∧ (onLine f h q).line.flight = f) ∧
    hearAnswer (.read 13 0x40 3) (backToBackAnswer [0x12, 0x34, 0x00, 0xFF, 0xA0, 0x01]) =
      .clean [0x12, 0x34, 0x00, 0xFF, 0xA0, 0x01] ∧
    (hearAnswer (.read 13 0x40 3) [] = .silent ∧ false = ({ slot := 0 } : RequestCall).garbled) ∧
    hearAnswer (.read 13 0x40 3) halfAnswer = .garbled [0x3A] ∧
    (({ slot := 0 } : RequestCall).attempts ≤ served.callRetries ∧
      served.callRetries < ({ slot := 0, attempts := 2 } : RequestCall).attempts) ∧
    hearAnswer (.write 13 0x40 [5]) (backToBackAnswer [1]) = .clean [BitVec.ofNat 8 [(5 : Word)].length] ∧
    hearAnswer (.write 13 0x40 [5]) [] = .silent ∧ hearAnswer (.write 13 0x40 [5]) halfAnswer = .garbled [0x3A] ∧
    (hearAnswer (.write 13 0x40 [5]) (backToBackAnswer [2]) = .clean [2] ∧
      [(2 : Byte)] ≠ [BitVec.ofNat 8 [(5 : Word)].length]) := by
  refine ⟨fun _ _ _ => ⟨rfl, rfl⟩, ?_⟩
  decide +kernel

/-- With `test_witness_answers` for what is heard. -/
theorem test_witness_MoveCallGroup :
    (∀ f h, (onLine f h (.move 3 10)).req.hand = some h ∧ (onLine f h (.move 3 10)).line.flight = f) ∧
    ∀ f, ((onLine f { slot := 0, ident := devB.ident } (.move 3 10)).slot 0).latched = some (.move 3 10) :=
  ⟨fun _ _ => ⟨rfl, rfl⟩, fun _ => rfl⟩

/-! ### Witnesses: the walker -/

/-- A walker in a state with a claim of B in hand, its call group in flight or not. -/
def midClaim (st : WalkerState) (f : Flight) : State :=
  { withFlight f served with walker := { state := st, claim := some ⟨⟨devB.ident, devB.cls⟩, 10, .new, 0, 3⟩ } }

theorem test_witness_PassStarts :
    (∀ st f, (midClaim st f).walker.state = st ∧ (midClaim st f).line.flight = f) ∧
    (∃ inFlight : Prop, inFlight ∧ (inFlight ↔ (∃ k, Flight.gap .walker (.roll 10) = .sending .walker k ∨
        Flight.gap .walker (.roll 10) = .listening .walker k ∨ Flight.gap .walker (.roll 10) = .gap .walker k) ∨
      ∃ heard, Flight.gap .walker (.roll 10) = .windows heard)) ∧
    (∃ inFlight : Prop, ¬ inFlight ∧ (inFlight ↔ (∃ k, Flight.clearLow = .sending .walker k ∨
        Flight.clearLow = .listening .walker k ∨ Flight.clearLow = .gap .walker k) ∨ ∃ heard, Flight.clearLow = .windows heard)) ∧
    (∃ kept, kept = (midClaim .walking (.gap .walker (.roll 10))).walker.claim ∧ kept ≠ none) ∧
    (WalkerState.idle ≠ .walking ∧ WalkerState.awaitClear ≠ .walking) ∧
    ((runIn .discovering true true).cm.state = .discovering ∧ (runIn .discovering true true).walker.state = .idle ∧
      served.cm.state = .serving ∧ served.cm.state ≠ .discovering ∧ (runIn .making true false).cm.state ≠ .discovering ∧
      (runIn .making true false).cm.state ≠ .serving ∧ (runIn .making true false).walker.state = .idle) :=
  ⟨fun _ _ => ⟨rfl, rfl⟩, ⟨True, trivial, by simp⟩, ⟨False, by simp, by simp⟩, ⟨_, rfl, by decide⟩, by decide, by decide⟩

/-- A walking walker with a seek of a prefix in hand. -/
def seeking (p : Prefix) (stack : List Prefix) : State :=
  withWalker { state := .walking, seeking := some p, stack := stack, counts := { seeks := 254, unresolved := 255 } } served

/-- The judgement of windows under a prefix, as `SeekWindowsTaken` writes it. -/
def judgedAs (p : Prefix) (heard : List Window) (w : Nat) : Window :=
  match heard.getD w .silent with
  | .clean i c =>
    if (identityDigits i).take p.length = p ∧ digitAt i p.length = BitVec.ofNat 4 w ∧ i ≠ 0 ∧ i ≠ BitVec.allOnes 48 then
      .clean i c else .garbled
  | x => x

/-- All sixteen windows GARBLED: on a stack of 8 there is room for all, on one of 9 a prefix is dropped, on a full one all
are; at length 11 UNRESOLVED stays at 255. Seeks of 254 and 255 stand on the two sides of the budget. -/
theorem test_witness_SeekWindowsTaken :
    (∀ p l, (seeking p l).walker.state = .walking ∧ (seeking p l).walker.seeking = some p ∧
      (seeking p l).walker.candidates = [] ∧ (seeking p l).walker.stack = l ∧
      (seeking p l).walker.counts.seeks < 255 ∧ (seeking p l).walker.counts.unresolved ≤ 255 ∧
      (seeking p l).walker.counts.dropped ≤ 255) ∧
    (List.replicate 16 Window.garbled).length = 16 ∧
    (∃ garbled : List Nat,
      garbled = (List.range 16).filter (fun w => decide (judgedAs [] (List.replicate 16 .garbled) w = .garbled)) ∧
      (∀ k surplus : Nat, (k, surplus) ∈ [(8, 0), (9, 1), (24, 16)] → (List.replicate k ([1] : Prefix)).length ≤ 24 ∧
        surplus = (List.replicate k ([1] : Prefix)).length + garbled.length - 24)) ∧
    ((List.replicate 10 (1 : Digit)).length ≤ 10 ∧ (List.replicate 11 (1 : Digit)).length = 11) ∧
    (∀ o, (withWalker { state := .walking, seeking := some [1], owed := o, counts := { seeks := 255 } } served).walker.owed = o ∧
      255 ≤ (withWalker { state := .walking, seeking := some [1], owed := o, counts := { seeks := 255 } } served).walker.counts.seeks ∧
      (withWalker { state := .walking, seeking := some [1], owed := o, counts := { seeks := 255 } } served).line.flight = .free) := by
  refine ⟨fun _ _ => ⟨rfl, rfl, rfl, rfl, show 254 < 255 by decide, show 255 ≤ 255 by decide, show 0 ≤ 255 by decide⟩, by decide,
    ⟨_, rfl, ?_⟩, by decide, fun _ => ⟨rfl, show 255 ≤ 255 by decide, rfl⟩⟩
  intro k surplus h
  simp only [List.mem_cons, Prod.mk.injEq, List.not_mem_nil, or_false] at h
  obtain ⟨rfl, rfl⟩ | ⟨rfl, rfl⟩ | ⟨rfl, rfl⟩ := h <;> decide +kernel

theorem test_witness_SeekWindowsTaken_sweep :
    (∀ o, (withWalker { state := .sweeping, seeking := some [], owed := o } served).walker.state = .sweeping ∧
      (withWalker { state := .sweeping, seeking := some [], owed := o } served).walker.seeking = some [] ∧
      (withWalker { state := .sweeping, seeking := some [], owed := o } served).walker.owed = o ∧
      (withWalker { state := .sweeping, seeking := some [], owed := o } served).line.flight = .free) ∧
    ((∀ w ∈ List.replicate 16 Window.silent, w = .silent) ∧ (List.replicate 16 Window.silent).length = 16) ∧
    ((∃ w ∈ (List.replicate 16 Window.silent).set 15 .garbled, w ≠ .silent) ∧
      ((List.replicate 16 Window.silent).set 15 .garbled).length = 16) :=
  ⟨fun _ => ⟨rfl, rfl, rfl, rfl⟩, by decide, by decide⟩

/-- A last seek, its windows silent so far, with or without an owed pass, and one that reached the budget. -/
def lastSeek (owed : Bool) (counts : PassCounts) (stack : List Prefix) : State :=
  withFlight (.windows (List.replicate 15 .silent)) (withWalker
    { state := .walking, seeking := some [], owed := owed, counts := counts, stack := stack, attempts := 8 } served)

theorem test_witness_SeekEndsPass :
    (∀ o c l, (lastSeek o c l).walker.state = .walking ∧ (lastSeek o c l).walker.seeking = some [] ∧
      (lastSeek o c l).line.flight = .windows (List.replicate 15 .silent) ∧
      (lastSeek o c l).walker.owed = o) ∧
    ((lastSeek false { seeks := 1 } []).walker.candidates = [] ∧ (lastSeek false { seeks := 1 } []).walker.stack = []) ∧
    255 ≤ (lastSeek true { seeks := 255 } [[1]]).walker.counts.seeks ∧
    (PassResult.complete = if (lastSeek false { seeks := 254 } []).walker.counts.unresolved = 0 ∧
      (lastSeek false { seeks := 254 } []).walker.counts.dropped = 0 ∧
      (lastSeek false { seeks := 254 } []).walker.counts.noRoom = 0 ∧
      (lastSeek false { seeks := 254 } []).walker.counts.seeks < 255 then .complete else .incomplete) ∧
    (8 = if PassResult.incomplete = .complete then 0 else min 8 ((lastSeek true { seeks := 255 } [[1]]).walker.attempts + 1)) := by
  refine ⟨fun _ _ _ => ⟨rfl, rfl, rfl, rfl⟩, ?_⟩
  decide

/-- The walker in a state with a sweep counter and SWEEP_ROUNDS. -/
def sweepsAt (st : WalkerState) (count rounds : Nat) : State :=
  withWalker { state := st, sweepCount := count, sweepRounds := rounds } served

/-- With `test_witness_PassStarts` for the call group in flight and the claim kept. -/
theorem test_witness_WalkerClearAndLoss :
    (∀ st f, (midClaim st f).walker.state = st ∧ (midClaim st f).cm.state = .serving ∧
      (midClaim st f).cm.state ≠ .discovering) ∧
    ((runIn .making true false).walker.state = .idle ∧ (runIn .making true false).cm.state ≠ .discovering ∧
      (runIn .making true false).cm.state ≠ .serving) ∧
    (∀ st, (withWalker { state := st } (runIn .discovering true true)).walker.state = st ∧
      (withWalker { state := st } (runIn .discovering true true)).cm.state = .discovering) ∧
    served.cm.state = .serving ∧
    (WalkerState.idle ≠ .awaitClear ∧ WalkerState.idle ≠ .walking) ∧
    (10 = min 255 ((sweepsAt .idle 9 10).walker.sweepCount + 1) ∧ (sweepsAt .idle 9 10).walker.state = .idle ∧
      (sweepsAt .idle 9 10).walker.sweepRounds ≠ 0 ∧ (sweepsAt .idle 9 10).walker.sweepRounds ≤ 10) ∧
    (9 = min 255 ((sweepsAt .idle 8 10).walker.sweepCount + 1) ∧ 9 < (sweepsAt .idle 8 10).walker.sweepRounds) ∧
    (255 = min 255 ((sweepsAt .idle 255 0).walker.sweepCount + 1) ∧ (sweepsAt .idle 255 0).walker.sweepRounds = 0) ∧
    State.reset.cm.state ≠ .serving :=
  ⟨fun _ _ => ⟨rfl, rfl, by simp [midClaim, withFlight, served, runIn]⟩, by decide, fun _ => ⟨rfl, rfl⟩, rfl, by decide, by decide, by decide,
    by decide, by decide⟩

/-! ### Witnesses: the directory -/

/-- A directory whose entry 5 is alone outside VACANT. -/
def oneEntry (st : EntryState) : State := withEntry 4 { gen := 2, state := st, ident := devA.ident } served

/-- An entry in a state with a GEN and an identity alone. -/
theorem plainEntry_ok (g : Word) (st : EntryState) (i : Identity) (h : st = .vacant → i = 0) :
    EntryOk { gen := g, state := st, ident := i } where
  vacant := fun hv => ⟨h hv, rfl, rfl, rfl, rfl, rfl, rfl, rfl⟩
  keep := fun hk => absurd rfl hk
  strikes := fun hk => absurd rfl hk
  owed := by intro hk; cases hk
  conflict := by intro hk; cases hk

theorem oneEntry_entry (st : EntryState) (n : Name) :
    (oneEntry st).entry n = if n = 4 then { gen := 2, state := st, ident := devA.ident } else {} := by
  unfold oneEntry withEntry State.putEntry State.entry
  rcases eq_or_ne n 4 with rfl | h
  · simp
  · simp only [Fin.getElem_fin, h, if_false]
    rw [Vector.getElem_set_ne (h := fun hv => h (Fin.ext hv.symm))]
    simp [served, runIn, State.reset]

theorem oneEntry_inv (st : EntryState) (h : st ≠ .vacant) : DirInv (oneEntry st) where
  entries := by
    intro n; rw [oneEntry_entry]; split
    · exact plainEntry_ok 2 st devA.ident (fun hv => absurd hv h)
    · exact plainEntry_ok 0 .vacant 0 (fun _ => rfl)
  unique := by
    intro n m hnm hn hm
    rw [oneEntry_entry] at hn hm
    split at hn
    · split at hm
      · exact absurd (by simp_all) hnm
      · exact absurd rfl hm
    · exact absurd rfl hn
  prior := by intro o ho; cases ho
  offer := by intro o ho; cases ho

/-- A directory with no free name: every entry STALE, RETIRING as `st` says, each with its own identity and KEEP. -/
def fullDirectory (st : EntryState) (keep : Nat) : State :=
  { served with dir := { entries := Vector.ofFn fun n => { state := st, ident := BitVec.ofNat 48 (n.val + 1), keep := keep } } }

theorem fullDirectory_inv (st : EntryState) (keep : Nat) (h : st ≠ .vacant) (hk : keep ≠ 0 → st = .stale) :
    DirInv (fullDirectory st keep) where
  entries := by
    intro n
    refine ⟨?_, ?_, ?_, ?_, ?_⟩ <;> simp [fullDirectory, State.entry, h]
    exact hk
  unique := by
    intro n m hnm _ _
    simp only [fullDirectory, State.entry, Fin.getElem_fin, Vector.getElem_ofFn]
    intro he
    have := congrArg BitVec.toNat he
    simp only [BitVec.toNat_ofNat] at this
    exact hnm (Fin.ext (by omega))
  prior := by intro o ho; cases ho
  offer := by intro o ho; cases ho

theorem test_witness_NameChoiceOrder :
    (∀ st ∈ [EntryState.bound, .held, .stale, .retiring, .offered, .disputed],
      DirInv (oneEntry st) ∧ ((oneEntry st).entry 4).ident = devA.ident ∧ ((oneEntry st).entry 4).state = st) ∧
    (∃ ce : ClassEntry, (∀ k : Fin 64, k.val = min (0x14 : Byte).toNat 63 → ce = (oneEntry .stale).port.classMap[k]) ∧
      (∃ n : Name, ce.low.toNat ≤ n.val + 1 ∧ n.val + 1 ≤ ce.high.toNat ∧
        ((oneEntry .stale).entry n).state = .vacant ∧ ((oneEntry .stale).entry n).owed = false ∧
        ∀ m, m < n → ¬ (((oneEntry .stale).entry m).state = .vacant))) ∧
    (∀ n, ((oneEntry .stale).entry n).ident = devB.ident → ((oneEntry .stale).entry n).state = .vacant) ∧
    (DirInv (fullDirectory .stale 5) ∧ (∀ n, ((fullDirectory .stale 5).entry n).state = .stale) ∧
      ∀ n, ((fullDirectory .stale 5).entry n).ident ≠ devB.ident) ∧
    (DirInv (fullDirectory .retiring 0) ∧ (∀ n, ((fullDirectory .retiring 0).entry n).state = .retiring) ∧
      ∀ n, ((fullDirectory .retiring 0).entry n).ident ≠ devB.ident) := by
  refine ⟨?_, ⟨⟨1, 62, 0⟩, by decide +kernel, 0, ?_⟩, by decide +kernel, ?_, ?_⟩
  · intro st hst
    exact ⟨oneEntry_inv st (by intro hv; subst hv; simp at hst), by simp [oneEntry_entry], by simp [oneEntry_entry]⟩
  · decide +kernel
  · exact ⟨fullDirectory_inv _ _ (by decide) (fun _ => rfl), by decide +kernel, by decide +kernel⟩
  · exact ⟨fullDirectory_inv _ _ (by decide) (by decide), by decide +kernel, by decide +kernel⟩

/-- The class range that holds no free name, while another name is free. -/
def rangeFull : State :=
  { oneEntry .stale with port := { (oneEntry .stale).port with
      classMap := (oneEntry .stale).port.classMap.set 20 ⟨5, 5, 1⟩ } }

theorem test_witness_NameChoiceOrder_any_name :
    DirInv rangeFull ∧
    (∀ k : Fin 64, k.val = min (0x14 : Byte).toNat 63 → (⟨5, 5, 1⟩ : ClassEntry) = rangeFull.port.classMap[k]) ∧
    (∀ m : Name, (rangeFull.entry m).state = .vacant → ¬ (5 ≤ m.val + 1 ∧ m.val + 1 ≤ 5)) ∧
    (rangeFull.entry 0).state = .vacant ∧ (rangeFull.entry 0).owed = false := by
  refine ⟨oneEntry_inv .stale (by decide) |> fun h => ⟨h.entries, h.unique, h.prior, fun o ho => by cases ho⟩, ?_⟩
  decide +kernel

/-- A walking walker whose candidate B is first to be claimed. -/
def claimDue (s : State) : State :=
  withWalker { state := .walking, candidates := [⟨devB.ident, devB.cls⟩] } s

/-- A directory of STALE entries whose departures need no acknowledgement. -/
def departsUnacked : State :=
  { fullDirectory .stale 5 with dir := { (fullDirectory .stale 5).dir with ackMask := ⟨false, false, false, false⟩ } }

theorem test_witness_ClaimGrantMakesOffer :
    (∀ s ∈ [oneEntry .stale, fullDirectory .stale 5, fullDirectory .retiring 0],
      (claimDue s).line.active = true ∧ (claimDue s).cm.state = .serving ∧ (claimDue s).line.flight = .free ∧
      (claimDue s).nextGrant = some (.rotation .walker) ∧ (claimDue s).walker.state = .walking ∧
      (claimDue s).walker.candidates = ⟨devB.ident, devB.cls⟩ :: []) ∧
    (claimDue (oneEntry .stale)).nameChoice devB.ident devB.cls = .new 0 ∧
    (claimDue (withEntry 4 { state := .retiring, ident := devB.ident } served)).nameChoice devB.ident devB.cls = .ret 4 ∧
    (claimDue (withEntry 4 { state := .held, ident := devB.ident } served)).nameChoice devB.ident devB.cls = .reclaim 4 ∧
    (claimDue (withEntry 4 { state := .disputed, ident := devB.ident } served)).nameChoice devB.ident devB.cls = .busy ∧
    (claimDue (fullDirectory .retiring 0)).nameChoice devB.ident devB.cls = .noRoom ∧
    ((claimDue (fullDirectory .stale 5)).nameChoice devB.ident devB.cls = .evicted ∧
      (claimDue (fullDirectory .stale 5)).victim = some 0 ∧
      (claimDue (fullDirectory .stale 5)).dir.ackMask.depart = true) ∧
    ((claimDue departsUnacked).nameChoice devB.ident devB.cls = .evicted ∧ (claimDue departsUnacked).victim = some 0 ∧
      (claimDue departsUnacked).dir.ackMask.depart = false ∧
      (claimDue departsUnacked).nextGrant = some (.rotation .walker)) := by decide +kernel

/-- Entry 11 in a state under an offer of a kind. -/
def offered (k : OfferKind) (st : EntryState) : State :=
  withEntry 10 { gen := 2, state := st, ident := devB.ident, cls := devB.cls }
    { served with dir := { offer := some ⟨10, devB.ident, k, {}⟩ } }

theorem test_witness_ClaimOutcomes :
    served.dir.offer = none ∧
    ((offered .new .offered).dir.offer = some ⟨10, devB.ident, .new, {}⟩ ∧ 10 ∉ (offered .new .offered).line.releases ∧
      ((offered .new .offered).entry 10).state = .offered) ∧
    ((offered .ret .offered).dir.offer = some ⟨10, devB.ident, .ret, {}⟩ ∧ ((offered .ret .offered).entry 10).state = .offered) ∧
    ((offered .reclaim .bound).dir.offer = some ⟨10, devB.ident, .reclaim, {}⟩ ∧
      ((offered .reclaim .bound).entry 10).state = .bound) ∧
    (OfferKind.new ≠ .move ∧ OfferKind.ret ≠ .move ∧ OfferKind.reclaim ≠ .move) ∧
    ((9 : Name) ≠ 10 ∧ devA.ident ≠ devB.ident) := by decide +kernel

theorem test_witness_MoveReports :
    ((3 : Name) ≠ 10 ∧ (∃ ce : ClassEntry, ∀ k : Fin 64,
      k.val = min ((oneEntry .bound).entry 3).cls.toNat 63 → ce = (oneEntry .bound).port.classMap[k])) ∧
    ((oneEntry .bound).cm.state = .serving ∧ ((oneEntry .bound).entry 4).state = .bound ∧ (4 : Name) ≠ 10) ∧
    (State.reset.cm.state ≠ .serving ∧ ((oneEntry .held).entry 4).state ≠ .bound) ∧
    ((offered .move .offered).dir.offer = some ⟨10, devB.ident, .move, {}⟩ ∧
      ((offered .move .offered).entry 10).state = .offered ∧ 10 ∉ (offered .move .offered).line.releases) ∧
    (∀ o, served.dir.offer = some o → o.name ≠ 10 ∨ o.ident ≠ devB.ident) ∧
    (∀ o, (offered .move .offered).dir.offer = some o → o.name ≠ 9 ∨ o.ident ≠ devB.ident) := by
  refine ⟨⟨by decide, ⟨1, 62, 0⟩, ?_⟩, ?_, ?_, ?_, (by intro o h; cases h), (by intro o h; cases h; decide)⟩ <;> decide +kernel

/-- A SERVING coupling whose contacts have parted, the directory unit yet to take its coupling-lost notice, with entry 4 in
a state. -/
def partingWith (st : EntryState) : State :=
  withEntry 4 { gen := 2, state := st, ident := devA.ident }
    { runIn .opened false false with dir := { serving := true }, given := [.directoryCouplingLost .decoupled] }

theorem test_witness_RollReports :
    (∀ st, ((oneEntry st).entry 4).state = st ∧ 4 ∉ (oneEntry st).line.releases ∧ (oneEntry st).cm.state = .serving) ∧
    ((oneEntry .stale).dir.ackMask.depart = true ∧
      ({ oneEntry .stale with dir := { (oneEntry .stale).dir with ackMask := ⟨false, false, false, false⟩ } } : State).dir.ackMask.depart
        = false) ∧
    (∀ st, ((partingWith st).entry 4).state = st ∧ 4 ∉ (partingWith st).line.releases ∧
      (partingWith st).cm.state ≠ .serving ∧ (partingWith st).dir.serving = true) ∧
    (State.reset.cm.state ≠ .serving ∧ State.reset.dir.serving = false) ∧
    (∃ rep : RollReport, rep ≠ .dispute ∧ ∃ k, rep = .strike k) := by
  refine ⟨?_, by decide, ?_, by decide, .strike 1, by decide, 1, rfl⟩
  · intro st; exact ⟨by simp [oneEntry_entry], by simp [oneEntry, withEntry, State.putEntry, served], rfl⟩
  · intro st; cases st <;> decide

/-- The two orders of R129: the report first renews STAMP and the loss makes the entry STALE; the notice first makes it
STALE with its old STAMP. Both end with KEEP at KEEP_ROUNDS. -/
theorem test_roll_report_and_loss :
    ((nextOf (exec (.rollReport 4 (.answered 0 7)) (partingWith .bound))).bind fun t =>
        (nextOf (exec (.directoryCouplingLost .decoupled) t)).map fun u =>
          ((u.entry 4).state, (u.entry 4).stamp, (u.entry 4).keep)) = some (.stale, 7, 50) ∧
    ((nextOf (exec (.directoryCouplingLost .decoupled) (partingWith .bound))).bind fun t =>
        (nextOf (exec (.rollReport 4 (.answered 0 7)) t)).map fun u =>
          ((u.entry 4).state, (u.entry 4).stamp, (u.entry 4).keep)) = some (.stale, 0, 50) := by decide +kernel

/-- R129: the abandoned name is out of the due set and the round goes on. -/
theorem test_abandoned_roll :
    (nextOf (exec (.groupAbandoned .rollCaller) (rolling .bound 0 0 1 [10, 11]))).map (fun t =>
      (t.roll.hand, t.roll.due, t.roll.inProgress)) = some (none, [11], true) := by decide +kernel


/-- What a loss of the coupling makes of entry n under an offer record (R94). -/
def lostEntry (offer : Option Offer) (conflict : Bool) (rounds : Nat) (n : Name) (e : Entry) : Entry :=
  if e.state = .offered then
    match offer with
    | some o => if o.name = n then { o.prior with gen := e.gen + 2 } else { gen := e.gen + 2, state := .vacant }
    | none => { gen := e.gen + 2, state := .vacant }
  else clearedEntry conflict rounds e

/-- With `test_clearedEntry` for the function of a line clear; the function of a release sent is `clearedEntry` on a
DISPUTED entry. -/
theorem test_lostEntry (offer : Option Offer) (k : Bool) (rounds : Nat) (n : Name) (e : Entry) :
    (e.state ≠ .offered → lostEntry offer k rounds n e = clearedEntry k rounds e) ∧
    (∀ o, e.state = .offered → offer = some o → o.name = n → lostEntry offer k rounds n e = { o.prior with gen := e.gen + 2 }) ∧
    (e.state = .offered → (∀ o, offer = some o → o.name ≠ n) →
      lostEntry offer k rounds n e = { gen := e.gen + 2, state := .vacant }) := by
  unfold lostEntry
  refine ⟨fun h => by simp [h], fun o h ho hn => by simp [h, ho, hn], fun h hn => ?_⟩
  cases offer with
  | none => simp [h]
  | some o => simp [h, hn o rfl]

theorem test_witness_EntriesResolved :
    (∀ st, ((oneEntry st).entry 4).state = st) ∧
    (((withEntry 4 { owed := true } served).entry 4).state = .vacant ∧ ((withEntry 4 { owed := true } served).entry 4).owed = true) ∧
    (((oneEntry .held).entry 0).state = .vacant ∧ ((oneEntry .held).entry 0).owed = false) ∧
    (((offered .ret .offered).entry 10).state = .offered ∧
      ∃ o, (offered .ret .offered).dir.offer = some o ∧ o.name = 10) ∧
    (((oneEntry .offered).entry 4).state = .offered ∧ ∀ o, (oneEntry .offered).dir.offer = some o → o.name ≠ 4) ∧
    (served.dir.ackMask.conflict = false ∧
      ({ served with dir := { ackMask := ⟨false, false, true, true⟩ } } : State).dir.ackMask.conflict = true) := by
  refine ⟨fun st => by simp [oneEntry_entry], by decide +kernel, by decide +kernel, ⟨by decide +kernel, _, rfl, rfl⟩,
    ⟨by decide +kernel, by intro o h; cases h⟩, by decide⟩

theorem test_witness_Acknowledgement :
    ((oneEntry .held).port.run = true ∧ (2 : Word) = ((oneEntry .held).entry 4).gen ∧ ((oneEntry .held).entry 4).state = .held) ∧
    ((oneEntry .retiring).port.run = true ∧ (2 : Word) = ((oneEntry .retiring).entry 4).gen ∧
      ((oneEntry .retiring).entry 4).state = .retiring ∧ 4 ∉ (oneEntry .retiring).line.releases) ∧
    (State.reset.port.run = false ∧ (3 : Word) ≠ ((oneEntry .held).entry 4).gen ∧
      ((oneEntry .bound).entry 4).state ≠ .held ∧ ((oneEntry .bound).entry 4).state ≠ .retiring) := by decide +kernel

theorem test_witness_RollRounds :
    (served.cm.state = .serving ∧ served.roll.timer = none ∧ (runIn .making true false).cm.state ≠ .serving) ∧
    ([4] = (List.finRange 62).filter (fun n => decide (((oneEntry .held).entry n).state = .bound ∨
      ((oneEntry .held).entry n).state = .held ∨ ((oneEntry .held).entry n).state = .stale))) ∧
    ([] = (List.finRange 62).filter (fun n => decide ((served.entry n).state = .bound ∨
      (served.entry n).state = .held ∨ (served.entry n).state = .stale))) ∧
    (({ served with roll := { timer := some 100, inProgress := true, owed := true } } : State).roll.timer ≠ none ∧
      ({ served with roll := { timer := some 100 } } : State).roll.timer ≠ none ∧
      ({ served with roll := { timer := some 100 } } : State).roll.inProgress = false ∧
      ({ served with roll := { timer := some 100 } } : State).roll.owed = false) ∧ [(4 : Name)] ≠ [] ∧
    ((oneEntry .held).roll.owed = false ∧
      ({ oneEntry .held with roll := { inProgress := true, owed := true } } : State).roll.owed = true ∧
      ({ served with roll := { inProgress := true, owed := true } } : State).roll.owed = true) := by decide +kernel

/-! ### Witnesses: requests -/

/-- Slot 0, DONE with ticket 1, holds the host words of a request; ticket 5 is new. -/
def posted (t : Slot) (s : State) : State := withSlot { t with ticket := 1, phase := .done } s

theorem test_witness_accepted_post (t : Slot) (s : State) : ∃ t', t' = (posted t s).slot 0 ∧
    (5 : Byte) ≠ 0 ∧ (5 : Byte) ≠ t'.ticket ∧ (t'.phase = .free ∨ t'.phase = .done) :=
  ⟨_, rfl, by decide, by simp [posted, withSlot, State.putSlot, State.slot],
    .inr (by simp [posted, withSlot, State.putSlot, State.slot])⟩

/-- With `test_witness_accepted_post` for the accepted posts. -/
theorem test_witness_PostsJudged :
    Instr.readRequest 0 5 ∈ [Instr.readRequest 0 5, .postUnknownKind 0 5] ∧
    ((0 : Byte) = 0 ∧ (1 : Byte) = ((posted {} served).slot 0).ticket) ∧
    ((withSlot { phase := .waiting } served).slot 0).phase = .waiting ∧
    ((withSlot { phase := .onLine } served).slot 0).phase = .onLine ∧
    (State.reset.port.run = false ∧ served.port.run = true) ∧
    ((posted { kind := 0 } served).slot 0).kind = 0 ∧ 11 ≤ ((posted { kind := 11 } served).slot 0).kind.toNat ∧
    (((posted { kind := 2, count := 17 } served).slot 0).kind = 2 ∧
      17 ≤ ((posted { kind := 2, count := 17 } served).slot 0).count.toNat) ∧
    (((posted { kind := 4, name := 63 } served).slot 0).kind = 4 ∧
      63 ≤ ((posted { kind := 4, name := 63 } served).slot 0).name.toNat) ∧
    (((posted { kind := 3, name := 1, argA := 63 } served).slot 0).kind = 3 ∧
      63 ≤ ((posted { kind := 3, name := 1, argA := 63 } served).slot 0).argA.toNat) := by decide +kernel

/-- A state with its entry 1 in a state. -/
def firstEntry (st : EntryState) (s : State) : State := withEntry 0 { state := st, ident := devA.ident } s

/-- With `test_witness_accepted_post` for the accepted posts; counts of 1 and 16 and names 1 and 62 are the bounds. -/
theorem test_witness_LineRequestsWait :
    (∀ st ∈ [EntryState.bound, .held, .offered, .disputed, .vacant, .stale, .retiring],
      ((firstEntry st (posted { kind := 1, name := 1, count := 1 } served)).entry 0).state = st) ∧
    (((posted { kind := 1, name := 1, count := 1 } served).slot 0).name.toNat = (0 : Name).val + 1 ∧
      ((posted { kind := 1, name := 1, count := 1 } served).slot 0).kind = 1 ∧
      1 ≤ ((posted { kind := 1, name := 1, count := 1 } served).slot 0).count.toNat ∧
      ((posted { kind := 1, name := 1, count := 1 } served).slot 0).count.toNat ≤ 16) ∧
    (((posted { kind := 2, name := 62, count := 16 } served).slot 0).name.toNat = (61 : Name).val + 1 ∧
      ((posted { kind := 2, name := 62, count := 16 } served).slot 0).kind = 2 ∧
      ((posted { kind := 2, name := 62, count := 16 } served).slot 0).count.toNat ≤ 16) ∧
    (((posted { kind := 3, name := 1, argA := 62 } served).slot 0).kind = 3 ∧
      ((posted { kind := 3, name := 1, argA := 62 } served).slot 0).argA.toNat = (61 : Name).val + 1 ∧
      (served.entry 61).state = .vacant ∧ (served.entry 61).owed = false ∧
      ((withEntry 61 { owed := true } served).entry 61).owed = true) ∧
    (served.cm.state = .serving ∧ (runIn .discovering true true).cm.state = .discovering ∧
      faulted.cm.state ≠ .discovering ∧ faulted.cm.state ≠ .serving ∧ served.port.run = true ∧
      (runIn .discovering true true).port.run = true ∧ faulted.port.run = true) := by decide +kernel

/-- With `test_witness_accepted_post` for the accepted posts. -/
theorem test_witness_ReseatAndRequestNotices :
    (((posted { kind := 6 } served).slot 0).kind = 6 ∧ (posted { kind := 6 } served).cm.state = .serving ∧
      (posted { kind := 6 } (runIn .opened false false)).cm.state ≠ .serving) ∧
    (∃ (c : Instr) (r : Result) (ends : Slot → Prop), c = .requestLineClearSent ∧ r = .ok ∧
      (∀ t, ends t ↔ t.phase = .onLine ∧ t.latched = some .reseat) ∧
      (∃ k, ends ((withSlot { phase := .onLine, latched := some .reseat } served).slot k)) ∧
      ∀ k, ¬ ends (served.slot k)) ∧
    (∃ (c : Instr) (r : Result) (ends : Slot → Prop), c = .requestCouplingLost .hold ∧ r = .notRunning ∧
      (∀ t, ends t ↔ t.phase = .waiting ∨ t.phase = .onLine) ∧
      (∃ k, ends ((withSlot { phase := .waiting } served).slot k)) ∧ ∀ k, ¬ ends (served.slot k)) := by
  refine ⟨by decide +kernel,
    ⟨_, _, fun t => t.phase = .onLine ∧ t.latched = some .reseat, rfl, rfl, fun _ => Iff.rfl, ⟨0, ?_⟩, ?_⟩,
    ⟨_, _, fun t => t.phase = .waiting ∨ t.phase = .onLine, rfl, rfl, fun _ => Iff.rfl, ⟨0, ?_⟩, ?_⟩⟩ <;> decide +kernel

/-- With `test_witness_accepted_post` for the accepted posts. -/
theorem test_witness_ForgetAndSearch :
    (((posted { kind := 4, name := 1 } served).slot 0).kind = 4 ∧
      ((posted { kind := 4, name := 1 } served).slot 0).name.toNat = (0 : Name).val + 1) ∧
    (∀ st ∈ [EntryState.stale, .retiring, .vacant, .offered, .held, .bound, .disputed],
      ((firstEntry st (posted { kind := 4, name := 1 } served)).entry 0).state = st ∧
      0 ∉ (firstEntry st (posted { kind := 4, name := 1 } served)).line.releases) ∧
    (((posted { kind := 5 } served).slot 0).kind = 5 ∧ served.cm.state = .serving ∧
      (runIn .discovering true true).cm.state = .discovering ∧ (runIn .making true true).cm.state ≠ .discovering ∧
      (runIn .making true true).cm.state ≠ .serving ∧ served.port.run = true) ∧
    (served.walker.state = .idle ∧ served.walker.claim = none ∧
      (withWalker { state := .sweepDue } served).walker.state = .sweepDue ∧
      (withWalker { state := .sweeping } served).walker.state = .sweeping) := by decide +kernel

/-- With `test_witness_accepted_post` for the accepted posts; every word too small, and every word too large. -/
theorem test_witness_RetimeAndLimits :
    (((posted { kind := 7 } served).slot 0).kind = 7 ∧ (10#16).toNat = max 10 (min 10000 (0#16).toNat) ∧
      (1#16).toNat = max 1 (min 15 (0#16).toNat) ∧ (255#16).toNat = max 1 (min 255 (0xFFFF#16).toNat) ∧
      (0#16).toNat = min 255 (0#16).toNat ∧ (10000#16).toNat = max 10 (min 10000 (0xFFFF#16).toNat)) ∧
    (((posted { kind := 8 } served).slot 0).kind = 8 ∧ (4095#16).toNat = max 1 (min 4095 (0xFFFF#16).toNat) ∧
      (1#16).toNat = max 1 (min 4095 (0#16).toNat) ∧ (8190#16).toNat = max 1 (min 8190 (0xFFFF#16).toNat) ∧
      (254#16).toNat = max 1 (min 254 (0xFFFF#16).toNat) ∧
      (255#16).toNat = max ((254#16).toNat + 1) (max 2 (min 255 (0#16).toNat))) ∧ served.port.run = true := by
  decide +kernel

/-- With `test_witness_accepted_post` for the accepted posts. -/
theorem test_witness_DriveAndRearm :
    (((posted { kind := 9, argA := 1 } served).slot 0).kind = 9 ∧
      ((posted { kind := 9, argA := 1 } served).slot 0).argA ≠ 0 ∧ ((posted { kind := 9 } served).slot 0).argA = 0) ∧
    ((feeds 0).cm.state = .serving ∧ (feeds 0).feed.logicOn = true ∧ (feeds 0).feed.latch = false ∧
      (feeds 0).feed.driveOn = true ∧ served.feed.driveOn = false ∧ served.feed.logicOn = false ∧
      (feeds 0).port.run = true) ∧
    (((posted { kind := 10 } served).slot 0).kind = 10 ∧ served.cm.state ≠ .faulted ∧ served.feed.latch = false ∧
      ({ served with feed := { latch := true } } : State).feed.latch = true) ∧
    (faulted.cm.state = .faulted ∧ faulted.cm.first = true ∧ faulted.feed.latch = false ∧
      faulted.feed.trip = ⟨.none, ⟨false, false, false⟩, ⟨0, 0, 0, 0, 0⟩, 0⟩) ∧
    ((runIn .faulted false false).cm.state = .faulted ∧ (runIn .faulted false false).cm.first = false ∧
      (runIn .faulted false false).cm.last = false ∧
      ({ runIn .faulted false false with feed := { latch := true } } : State).feed.latch = true) := by decide +kernel

theorem test_witness_WithdrawAndTimeout :
    ∀ ph, ((withSlot { ticket := 5, phase := ph, wait := some 500 } served).slot 0).phase = ph ∧
      (5 : Byte) = ((withSlot { ticket := 5, phase := ph, wait := some 500 } served).slot 0).ticket ∧
      (6 : Byte) ≠ ((withSlot { ticket := 5, phase := ph, wait := some 500 } served).slot 0).ticket ∧
      ((withSlot { ticket := 5, phase := ph, wait := some 500 } served).slot 0).wait ≠ none := by
  intro ph; cases ph <;> decide +kernel

/-! ### Witnesses: the port, and the invariants -/

/-- HOLD with a HELD and a RETIRING entry whose seen words equal their GEN. -/
def ackedInHold : State :=
  withEntry 0 { gen := 2, state := .held, ident := devA.ident } <| withEntry 1 { gen := 4, state := .retiring, ident := devB.ident }
    { State.reset with port := { seen := ((Vector.replicate 62 (0 : Word)).set 0 2).set 1 4 } }

theorem test_witness_RunEntrySequence :
    served.port.run = true ∧
    (ackedInHold.port.run = false ∧ ackedInHold.cm.state = .dormant) ∧ ackedInHold.line.releases.Pairwise (· < ·) ∧
    (ackedInHold.port.seen[0] = (ackedInHold.entry 0).gen ∧ (ackedInHold.entry 0).state = .held) ∧
    (ackedInHold.port.seen[1] = (ackedInHold.entry 1).gen ∧ (ackedInHold.entry 1).state = .retiring) ∧
    (ackedInHold.port.seen[2] = (ackedInHold.entry 2).gen ∧ (ackedInHold.entry 2).state = .vacant) := by decide +kernel

theorem test_witness_SoftHoldAndRegisters :
    State.reset.port.run = false ∧ served.port.run = true ∧ served.cm.state ≠ .dormant := by decide

/-- The first and last address of each range of `HostWriteStoredOrDropped`. -/
theorem test_witness_HostWriteStoredOrDropped :
    (∀ a ∈ [0x0C0, 0x100, 0x13F, 0x3FF, 0x011, 0x03F, 0x500, 0x504, 0x7FF, 0x0BF, 0x010, 0x401, 0x405, 0x407, 0x418, 0x4FF,
      0x408, 0x417, 0x4F7], a = (BitVec.ofNat 11 a).toNat) ∧
    (∀ k : SlotNo, ((served.putSlot k { phase := .waiting }).slot k).phase = .waiting ∧ (served.slot k).phase = .free ∧
      0x408 + 32 * k.val ≤ 0x417 + 32 * k.val) ∧
    (∀ a ∈ [0x000, 0x010, 0x040, 0x0BF, 0x402, 0x404, 0x4E4], a = (BitVec.ofNat 11 a).toNat) ∧
    State.reset.port.run = false ∧ served.port.run = true := by decide +kernel

/-- The four intents of an ASK word with ticket 5, and a RUNCTL word of each kind. -/
theorem test_witness_HostWriteStoredOrDropped_words :
    (∀ v : Word, v ∈ [0x0005#16, 0x0105#16, 0x0205#16, 0xFF05#16] → (5 : Byte).toNat = v.toNat % 256) ∧
    ([0x0005#16, 0x0105#16, 0x0205#16, 0xFF05#16].map fun v => v.toNat / 256 % 4) = [0, 1, 2, 3] ∧
    ((3#16).toNat % 2 = 1 ∧ (2#16).toNat % 2 = 0) := ⟨by simp, by decide, by decide⟩

/-- The parameter words in the order of their addresses, as `HostWriteStoredOrDropped` writes them. -/
def paramWords (p : Params) : List Word :=
  [p.lineRate, p.settleMs, p.powerWaitMs, p.passRetryMs, p.rollMs, p.strikeLimit, p.keepRounds, p.sweepRounds,
    p.passAttempts, p.callRetries, p.requestWaitMs, p.ackMask, p.logicLimit, p.driveLimit, p.sumLimit, p.tripA, p.tripB]

/-- For each parameter word there are parameters with that word alone written, in HOLD; ACK_MASK keeps four bits. -/
theorem test_witness_HostWriteStoredOrDropped_stored :
    (State.reset.port.run = false ∧ ∀ a < 17, ∃ p : Params, paramWords p =
      (paramWords State.reset.port.params).set a (if a = 0x00B then 0xABCD#16 &&& 0x000F#16 else 0xABCD#16)) ∧
    ((0xCD : Byte).toNat = (0xABCD#16).toNat % 256 ∧ (0xAB : Byte).toNat = (0xABCD#16).toNat / 256) ∧
    (∀ c : Fin 64, 0x041 + 2 * c.val < 0x0C0) ∧
    (∀ (k : SlotNo) (j : Fin 16), 0x408 + 32 * k.val + j.val < 0x500 ∧ (served.slot k).phase = .free) :=
  ⟨⟨rfl, fun a _ => ⟨Params.store {} 0xABCD#16 a, by interval_cases a <;> rfl⟩⟩, by decide, by decide, by decide +kernel⟩

/-- The addresses of the ASK and the seen words, and the codes of the layouts. -/
theorem test_witness_HostWriteStoredOrDropped_events :
    (∀ k : SlotNo, ((BitVec.ofNat 11 (0x400 + 32 * k.val)).toNat = 0x400 + 32 * k.val)) ∧
    (∀ n : Name, (BitVec.ofNat 11 (0x101 + n.val)).toNat = 0x101 + n.val) ∧
    [.dormant, .opened, .making, .powering, .discovering, .serving, .faulted].map (fun c : CouplingState => c.ctorIdx) =
      [0, 1, 2, 3, 4, 5, 6] ∧
    [.vacant, .offered, .held, .bound, .stale, .disputed, .retiring].map (fun c : EntryState => c.ctorIdx) =
      [0, 1, 2, 3, 4, 5, 6] ∧
    [.free, .waiting, .onLine, .done].map (fun c : Phase => c.ctorIdx) = [0, 1, 2, 3] ∧
    (true.toNat = 1 ∧ false.toNat = 0) ∧
    [Result.ok, .notRunning, .badRequest, .notCoupled, .noDevice, .notReady, .nameBusy, .nameTaken, .noAnswer, .garbled,
      .decoupled, .toolFault, .timedOut, .withdrawn, .wrongState][14]? = some .wrongState := by decide +kernel

theorem test_witness_HostWriteStoredOrDropped_layouts :
    ((feeds 0).feed.trip.runLength ≤ 255 ∧ (feeds 0).feed.trip.readings.sum ≤ 8190 ∧ (feeds 0).feed.pedLogic ≤ 255 ∧
      (feeds 0).feed.pedDrive ≤ 255) ∧
    (∀ r : Readings, r = ⟨4095, 4095, 4095, 4095, 8190⟩ → r.rawLogic ≤ 4095 ∧ r.rawDrive ≤ 4095 ∧ r.corrLogic ≤ 4095 ∧
      r.corrDrive ≤ 4095 ∧ r.sum ≤ 8190) ∧
    served.walker.record.counts.inRange ∧
    (∃ code, (served.cm.cause = .none → code = 0) ∧ (served.cm.cause = .power → code = 1) ∧
      (served.cm.cause = .lineHeld → code = 2)) ∧
    (∀ n : Name, ((fullDirectory .stale 255).entry n).keep ≤ 255 ∧ ((fullDirectory .stale 255).entry n).strikes ≤ 15) := by
  refine ⟨by decide, ?_, by unfold PassCounts.inRange; decide, ⟨0, by decide⟩, by decide +kernel⟩
  rintro r rfl; decide

/-- The part's state after a hard reset meets every invariant, and an idle step from it answers a next state. -/
theorem test_witness_StepKeeps_step : step State.reset = .next State.reset := rfl
theorem test_witness_StepKeepsMonitor : MonitorInv State.reset := by constructor <;> decide
theorem test_witness_StepKeepsFeeds : FeedInv (feeds 4) := feeds_inv 4 (by decide)
theorem test_witness_StepKeepsSettings : SettingsInv served ∧ RangeInv served :=
  ⟨⟨by decide +kernel, by decide +kernel, by decide +kernel⟩, by constructor <;> decide⟩
theorem test_witness_StepKeepsDirectory :
    (GenInv served ∧ DirInv (oneEntry .held) ∧ MonitorInv (oneEntry .held) ∧ QuietInv (oneEntry .held)) ∧
    (RangeInv (oneEntry .held) ∧ LiveInv (oneEntry .held) ∧ (oneEntry .held).pending = []) :=
  ⟨⟨⟨by decide, by decide +kernel⟩, oneEntry_inv .held (by decide), by constructor <;> decide,
      ⟨fun _ _ => .inl rfl, fun _ => .inl rfl, fun _ => .inl rfl⟩⟩,
    by constructor <;> decide +kernel,
    ⟨by decide +kernel, by decide +kernel, by decide +kernel, (by intro o h; cases h), (by intro o h; cases h),
      (by intro o h; cases h), (by intro o h; cases h)⟩, rfl⟩

/-- After a loss of the coupling that the directory unit has yet to take, roll reports are still taken. -/
theorem test_witness_StepKeepsDirectory_parting :
    QuietInv (partingWith .bound) ∧ (partingWith .bound).dir.serving = true ∧ (partingWith .bound).cm.state ≠ .serving :=
  ⟨⟨fun _ _ => .inr ⟨.decoupled, by decide⟩, fun _ => .inr ⟨.decoupled, by decide⟩, fun _ => .inr ⟨.decoupled, by decide⟩⟩,
    rfl, by decide⟩

/-- A retention step of 50 rounds at the head of the queue keeps to the limits, and so does a strike of 2. -/
theorem test_witness_StepKeepsDirectory_reports :
    (1 ≤ 50 ∧ 50 ≤ (oneEntry .held).roll.keepRounds) ∧ 2 < (oneEntry .held).roll.strikeLimit := by decide

/-- The RELEASE of a MOVE is the case in which a name leaves the release list by another call than its own release. -/
theorem test_witness_StepKeepsDirectory_move :
    (withFlight (.sending .requestUnit (.release 3)) served).line.flight = .sending .requestUnit (.release 3) := rfl

theorem test_witness_StepKeepsLineSide :
    LineInv served ∧ WalkerInv served ∧ RollInv served ∧ MonitorInv served ∧ IdleInv served :=
  ⟨⟨by decide, by decide, by decide, by decide, by decide, by simp [served], (by intro h hh; cases hh)⟩,
    ⟨by decide, (by intro p hp; cases hp), (by unfold PassCounts.inRange; decide), (by unfold PassCounts.inRange; decide), by decide,
      by decide⟩,
    ⟨by simp [served, runIn, State.reset], by decide, by decide⟩, by constructor <;> decide,
    ⟨fun _ => .inl rfl, fun _ => .inl rfl, fun _ => .inl rfl, fun _ => .inl rfl, fun _ => .inl rfl, fun _ => .inl rfl,
      fun _ => rfl, fun _ => rfl⟩⟩

/-- A round in progress with names due, with no abandonment at the head of the queue; and a round that an abandonment has
left without one. -/
theorem test_witness_StepKeepsLineSide_round :
    (RollInv (rolling .bound 0 0 1 [10]) ∧ (rolling .bound 0 0 1 [10]).roll.inProgress = true ∧
      (rolling .bound 0 0 1 [10]).roll.due ≠ [] ∧
      ∀ rest, (rolling .bound 0 0 1 [10]).pending ≠ .groupAbandoned .rollCaller :: rest) ∧
    RollInv { served with roll := { inProgress := true } } ∧
    (served.roll.hand = none ∧ ∀ c, served.line.flight ≠ .listening .rollCaller c ∧ served.line.flight ≠ .sending .rollCaller c) :=
  ⟨⟨⟨by simp [rolling, withFlight, withEntry, State.putEntry], by decide, by decide⟩, rfl, by decide,
      by intro rest h; cases h⟩,
    ⟨by simp, by decide, by decide⟩, rfl, by intro c; exact ⟨(by intro h; cases h), by intro h; cases h⟩⟩

theorem test_witness_StepKeepsBoard : BoardInv served :=
  ⟨by decide, by decide +kernel, by decide +kernel, by decide +kernel, by decide +kernel, by decide +kernel⟩

end Sys2Proof.Machine.Tests
end

section
/-! PROOFS. A contact edge at the coupling monitor (R1): the edges taken in OPEN and in MAKING (R5, R6). -/

namespace Sys2Proof.Machine

/-! ### When the coupling record changes (R3) -/

/-- The level of a contact as the coupling record shows it. -/
def CouplingMonitor.shownLevel (c : CouplingMonitor) : Contact → Bool
  | .first => c.shownFirst
  | .last => c.shownLast

theorem CouplingMonitor.recordFields_ne_of_state_ne {c d : CouplingMonitor} (h : c.state ≠ d.state) :
    c.recordFields ≠ d.recordFields :=
  fun heq => h (congrArg Prod.fst heq)

theorem CouplingMonitor.recordFields_ne_of_shownLevel_ne {c d : CouplingMonitor} {x : Contact}
    (h : c.shownLevel x ≠ d.shownLevel x) : c.recordFields ≠ d.recordFields := by
  intro heq
  obtain ⟨-, hfirst, hlast, -, -⟩ : c.state = d.state ∧ c.shownFirst = d.shownFirst ∧
      c.shownLast = d.shownLast ∧ c.partialMate = d.partialMate ∧ c.cause = d.cause := by
    simpa only [CouplingMonitor.recordFields, Prod.mk.injEq] using heq
  cases x with
  | first => exact h hfirst
  | last => exact h hlast

/-! ### Recording a contact's level (R1) -/

@[simp] theorem CouplingMonitor.record_first (closed : Bool) (c : CouplingMonitor) :
    c.record .first closed = { c with first := closed, shownFirst := closed } := rfl

@[simp] theorem CouplingMonitor.record_last (closed : Bool) (c : CouplingMonitor) :
    c.record .last closed = { c with last := closed, shownLast := closed } := rfl

theorem CouplingMonitor.shownLevel_record (x : Contact) (closed : Bool) (c : CouplingMonitor) :
    (c.record x closed).shownLevel x = closed := by
  cases x <;> rfl

/-- Out of two open contacts the recorded one alone is closed. -/
theorem CouplingMonitor.record_closed_of_open (x : Contact) {c : CouplingMonitor}
    (hlevels : c.first = false ∧ c.last = false)
    (hshown : c.shownFirst = c.first ∧ c.shownLast = c.last) :
    c.record x true = { c with
      first := decide (x = .first), shownFirst := decide (x = .first)
      last := decide (x = .last), shownLast := decide (x = .last) } := by
  obtain ⟨hfirst, hlast⟩ := hlevels
  obtain ⟨hshownFirst, hshownLast⟩ := hshown
  rw [hfirst] at hshownFirst
  rw [hlast] at hshownLast
  cases x with
  | first => simp [← hlast, hshownLast]
  | last => simp [← hfirst, hshownFirst]

/-! ### What the coupling monitor's invariant says of one contact -/

theorem MonitorInv.level_of_opened {s : State} (inv : MonitorInv s) (hs : s.cm.state = .opened) (x : Contact) :
    s.cm.level x = false := by
  obtain ⟨hfirst, hlast⟩ := inv.opened hs
  cases x with
  | first => exact hfirst
  | last => exact hlast

theorem MonitorInv.shownLevel_eq {s : State} (inv : MonitorInv s) (hs : s.cm.state ≠ .dormant) (x : Contact) :
    s.cm.shownLevel x = s.cm.level x := by
  obtain ⟨hfirst, hlast⟩ := inv.shown hs
  cases x with
  | first => exact hfirst
  | last => exact hlast

/-! ### The edge, state by state -/

theorem exec_contactEdge (x : Contact) (closed : Bool) (s : State) :
    exec (.contactEdge x closed) s = .next (if s.cm.level x = closed then s else s.edge x closed) := rfl

theorem exec_contactEdge_of_level_ne {x : Contact} {closed : Bool} {s : State} (h : s.cm.level x ≠ closed) :
    exec (.contactEdge x closed) s = .next (s.edge x closed) := by
  rw [exec_contactEdge, if_neg h]

/-- In OPEN the record's state field changes, so the edge makes one stable change (R3, R5). -/
theorem State.edge_of_opened {s : State} (hs : s.cm.state = .opened) (x : Contact) (closed : Bool) :
    s.edge x closed = { s with
      cm := { (s.cm.record x closed).startSettle with state := .making }
      port := { s.port with recGen := s.port.recGen + 2, alert := s.port.alert ||| 1#7 }
      given := s.given ++ [.sampleNotice, .feedsOffCommand] } := by
  have hchange : CouplingMonitor.recordFields { (s.cm.record x closed).startSettle with state := .making } ≠
      s.cm.recordFields := CouplingMonitor.recordFields_ne_of_state_ne (by simp [hs])
  simp only [State.edge, hs, State.setMonitor_changed _ _ hchange, State.give]

/-- In MAKING the shown level of the contact changes, so the edge makes one stable change (R3, R6). -/
theorem State.edge_of_making {s : State} {x : Contact} {closed : Bool} (hs : s.cm.state = .making)
    (hx : s.cm.shownLevel x ≠ closed) :
    s.edge x closed = { s with
      cm := { (s.cm.record x closed).startSettle with partialMate := false }
      port := { s.port with recGen := s.port.recGen + 2, alert := s.port.alert ||| 1#7 } } := by
  have hshown : CouplingMonitor.shownLevel { (s.cm.record x closed).startSettle with partialMate := false } x =
      closed := s.cm.shownLevel_record x closed
  have hchange : CouplingMonitor.recordFields { (s.cm.record x closed).startSettle with partialMate := false } ≠
      s.cm.recordFields := CouplingMonitor.recordFields_ne_of_shownLevel_ne (x := x) (by rw [hshown]; exact hx.symm)
  simp only [State.edge, hs, State.setMonitor_changed _ _ hchange]

/-- R6 for either contact. -/
theorem exec_contactEdge_of_making {s : State} {x : Contact} {closed : Bool} (inv : MonitorInv s)
    (hs : s.cm.state = .making) (hx : s.cm.level x ≠ closed) :
    exec (.contactEdge x closed) s = .next { s with
      cm := { (s.cm.record x closed).startSettle with partialMate := false }
      port := { s.port with recGen := s.port.recGen + 2, alert := s.port.alert ||| 1#7 } } := by
  have hshown : s.cm.shownLevel x ≠ closed := by rwa [inv.shownLevel_eq (by simp [hs])]
  rw [exec_contactEdge_of_level_ne hx, State.edge_of_making hs hshown]

/-! ### The statements -/

/-- Settles O5: in OPEN both levels are open, so the edge closes, and the record it leaves is `State.edge_of_opened`'s. -/
theorem edgeInOpenStartsMaking : Obligations.EdgeInOpenStartsMaking := by
  intro s x closed inv hs hx
  have hclosed : closed = true := by simpa [inv.level_of_opened hs x] using hx
  subst hclosed
  refine ⟨rfl, _, .refl _, ?_⟩
  rw [exec_contactEdge_of_level_ne hx, State.edge_of_opened hs,
    CouplingMonitor.record_closed_of_open x (inv.opened hs) (inv.shown (by simp [hs]))]
  rfl

/-- Settles O6: `exec_contactEdge_of_making` for each of the two contacts. -/
theorem edgeInMakingRestartsSettle : Obligations.EdgeInMakingRestartsSettle :=
  fun _ _ inv hs => ⟨exec_contactEdge_of_making (x := .first) inv hs, exec_contactEdge_of_making (x := .last) inv hs⟩

end Sys2Proof.Machine
end

section
/-! PROOFS. The exchange port: a host write that its word's writer table drops (R135), and IDENT (R138). -/

namespace Sys2Proof.Machine

/-! ### The area of IDENT (section 8.2) -/

@[simp] theorem areaOf_ident : areaOf 0x500#11 = .ident := by decide

theorem State.readWord_of_ident {s : State} {addr : BitVec 11} (h : areaOf addr = .ident) :
    s.readWord addr = Config.identWord := by
  rw [State.readWord, h]

/-- The host is never the writer of IDENT. -/
theorem State.hostWrites_of_ident {s : State} {addr : BitVec 11} (h : areaOf addr = .ident) :
    s.hostWrites addr = false := by
  rw [State.hostWrites, h]

/-! ### Host writes (R134, R135) -/

theorem exec_hostWrite (addr : BitVec 11) (v : Word) (s : State) :
    exec (.hostWrite addr v) s =
      .next (if s.hostWrites addr then s.storeWord (areaOf addr) v else s.dropWrite) := rfl

/-- R135: a write by a host that is not the word's writer raises ALERT.MISUSE and does nothing else. -/
theorem exec_hostWrite_of_dropped {s : State} {addr : BitVec 11} (h : s.hostWrites addr = false) (v : Word) :
    exec (.hostWrite addr v) s = .next { s with
      port := { s.port with alert := s.port.alert ||| 32#7 } } := by
  rw [exec_hostWrite, h, if_neg Bool.false_ne_true, State.dropWrite, State.raise_eq, Alert.mask_misuse]

/-! ### The statement -/

/-- Settles O54: 0x500 lies in IDENT's area, which reads the fixed word and has no host writer in any state. -/
theorem identReadsAndDropsWrites : Obligations.IdentReadsAndDropsWrites :=
  fun _ => ⟨State.readWord_of_ident areaOf_ident,
    exec_hostWrite_of_dropped (State.hostWrites_of_ident areaOf_ident)⟩

end Sys2Proof.Machine
end

section
/-! PROOFS. The commands of the coupling monitor (chapter 1): what each of them answers, and the statements of the
chapter that a contact edge, a timer or a notice settles. -/

namespace Sys2Proof.Machine

variable (s : State)

/-! ### What the commands answer -/

theorem exec_settleExpiry : exec .settleExpiry s =
    .next (if s.cm.state = .making ∧ s.cm.settle.isSome = true then s.settled else s) := rfl

theorem exec_powerWaitExpiry_of_runs (hs : s.cm.state = .powering) (hw : s.cm.powerWait ≠ none) :
    exec .powerWaitExpiry s = .next ((s.setMonitor { s.cm with state := .discovering, powerWait := none }).give
      [.lineActiveNotice, .firstPassNotice, .requestDiscoveringNotice]) :=
  congrArg _ (if_pos ⟨hs, Option.isSome_iff_ne_none.2 hw⟩)

theorem exec_powerWaitExpiry_of_stopped (h : ¬(s.cm.state = .powering ∧ s.cm.powerWait.isSome = true)) :
    exec .powerWaitExpiry s = .next s :=
  congrArg _ (if_neg h)

theorem exec_passEndReport_of_discovering (r : PassResult) (fu : Bool) (hs : s.cm.state = .discovering) :
    exec (.passEndReport r fu) s = .next
      (((s.take (.passEndReport r fu)).directoryServes.setMonitor { s.cm.retry fu with state := .serving }).give
        [.rollServingNotice, .lineServingNotice, .requestServingNotice]) := by
  simp only [exec, execPassEndReport, State.take_cm, hs]

theorem exec_passEndReport_of_serving (r : PassResult) (fu : Bool) (hs : s.cm.state = .serving) :
    exec (.passEndReport r fu) s = .next ((s.take (.passEndReport r fu)).setMonitor (s.cm.retry fu)) := by
  simp only [exec, execPassEndReport, State.take_cm, hs]

theorem exec_passEndReport_of_lineOff (r : PassResult) (fu : Bool) (hd : s.cm.state ≠ .discovering)
    (hs : s.cm.state ≠ .serving) : exec (.passEndReport r fu) s = .next (s.take (.passEndReport r fu)) := by
  simp only [exec, execPassEndReport, State.take_cm]

theorem exec_passStartReport : exec .passStartReport s = .next (if s.cm.state.lineOn then
    { s.take .passStartReport with cm := { s.cm with passRetry := none } } else s.take .passStartReport) := rfl

theorem exec_passRetryExpiry : exec .passRetryExpiry s = .next (if s.cm.state = .serving ∧
    s.cm.passRetry.isSome = true then State.give [.retryDueNotice] { s with cm := { s.cm with passRetry := none } }
  else s) := rfl

theorem exec_logicOnReport : exec .logicOnReport s = .next (if s.cm.state = .powering then
    { s.take .logicOnReport with cm := { s.cm with powerWait := some s.cm.powerWaitMs } }
  else s.take .logicOnReport) := rfl

theorem exec_stageBNotice : exec .stageBNotice s = .next (if s.cm.state.coupled then
    (s.take .stageBNotice).enterFaulted .power else s.take .stageBNotice) := rfl

theorem exec_lineHeldNotice : exec .lineHeldNotice s = .next (if s.cm.state.lineOn then
    (s.take .lineHeldNotice).enterFaulted .lineHeld else s.take .lineHeldNotice) := rfl

/-! ### Coupling states -/

theorem CouplingState.lineOn_iff (c : CouplingState) : c.lineOn = true ↔ c = .discovering ∨ c = .serving := by
  cases c <;> simp [CouplingState.lineOn]

theorem CouplingState.lineOn_eq_false_iff (c : CouplingState) :
    c.lineOn = false ↔ c ≠ .discovering ∧ c ≠ .serving := by
  cases c <;> simp [CouplingState.lineOn]

theorem CouplingState.coupled_iff (c : CouplingState) :
    c.coupled = true ↔ c = .powering ∨ c.lineOn = true := by
  cases c <;> simp [CouplingState.coupled, CouplingState.lineOn]

/-- The notices of a loss, with the line-inactive notice out of every coupled state but POWERING (R4, R12). -/
theorem lossGiven_of_coupled {c : CouplingState} (h : c.coupled = true) (r : LossReason) :
    lossGiven c r = (if c = .powering then [] else [.lineInactiveNotice]) ++ lossNotices r := by
  cases c <;> first | rfl | cases h

/-! ### A decoupling (R13) -/

/-- Out of two closed contacts the recorded one alone is open. -/
theorem CouplingMonitor.record_open_of_closed (x : Contact) {c : CouplingMonitor}
    (hlevels : c.first = true ∧ c.last = true) (hshown : c.shownFirst = c.first ∧ c.shownLast = c.last) :
    c.record x false = { c with
      first := decide (x = .last), shownFirst := decide (x = .last)
      last := decide (x = .first), shownLast := decide (x = .first) } := by
  obtain ⟨hfirst, hlast⟩ := hlevels
  obtain ⟨hshownFirst, hshownLast⟩ := hshown
  rw [hfirst] at hshownFirst
  rw [hlast] at hshownLast
  cases x with
  | first => simp [← hlast, hshownLast]
  | last => simp [← hfirst, hshownFirst]

theorem MonitorInv.level_of_coupled {s : State} (inv : MonitorInv s) (hs : s.cm.state.coupled = true) (x : Contact) :
    s.cm.level x = true := by
  obtain ⟨hfirst, hlast⟩ := inv.closed hs
  cases x with
  | first => exact hfirst
  | last => exact hlast

theorem State.edge_of_coupled {s : State} (hs : s.cm.state.coupled = true) (x : Contact) (closed : Bool) :
    s.edge x closed = s.decouple x closed := by
  unfold State.edge
  cases h : s.cm.state <;> first | rfl | simp [h, CouplingState.coupled] at hs

theorem State.decouple_of_coupled {s : State} (hs : s.cm.state.coupled = true) (x : Contact) (closed : Bool) :
    s.decouple x closed = { s with
      cm := { (s.cm.record x closed).startSettle.stopWaits with state := .making }
      port := { s.port with recGen := s.port.recGen + 2, alert := s.port.alert ||| 1#7 }
      given := s.given ++ lossGiven s.cm.state .decoupled } := by
  have hchange : CouplingMonitor.recordFields
      { (s.cm.record x closed).startSettle.stopWaits with state := .making } ≠ s.cm.recordFields :=
    CouplingMonitor.recordFields_ne_of_state_ne (by rintro h; simp [← h, CouplingState.coupled] at hs)
  simp only [State.decouple, State.setMonitor_changed _ _ hchange, State.give]

/-- Settles O7: with both contacts closed the edge opens, and what it leaves is `State.decouple_of_coupled`'s. -/
theorem edgeLosesCoupling : Obligations.EdgeLosesCoupling := by
  intro s x closed inv hs hx
  have hclosed : closed = false := by simpa [inv.level_of_coupled hs x] using hx
  subst hclosed
  have hshown : s.cm.state ≠ .dormant := by rintro h; simp [h, CouplingState.coupled] at hs
  refine ⟨rfl, s.given ++ lossGiven s.cm.state .decoupled, ?_, ?_⟩
  · rw [lossGiven_of_coupled hs, ← List.append_assoc]
    exact .refl _
  · rw [exec_contactEdge_of_level_ne hx, State.edge_of_coupled hs, State.decouple_of_coupled hs,
      CouplingMonitor.record_open_of_closed x (inv.closed hs) (inv.shown hshown)]
    rfl

/-! ### Edges in DORMANT and in FAULTED (R1, R16) -/

theorem exec_contactEdge_of_level_eq {x : Contact} {closed : Bool} (h : s.cm.level x = closed) :
    exec (.contactEdge x closed) s = .next s := by
  rw [exec_contactEdge, if_pos h]

/-- In DORMANT the level alone moves, whether or not the contact was at it. -/
theorem exec_contactEdge_of_dormant (x : Contact) (closed : Bool) (hs : s.cm.state = .dormant) :
    exec (.contactEdge x closed) s = .next { s with cm := s.cm.sense x closed } := by
  by_cases h : s.cm.level x = closed
  · have hsense : s.cm.sense x closed = s.cm := by
      subst h; cases x <;> rfl
    rw [exec_contactEdge_of_level_eq s h, hsense]
  · rw [exec_contactEdge_of_level_ne h, State.edge, hs]

/-- In FAULTED the shown level changes, so the edge makes one stable change (R3, R16). -/
theorem exec_contactEdge_of_faulted {x : Contact} {closed : Bool} {s : State} (inv : MonitorInv s)
    (hs : s.cm.state = .faulted) (hx : s.cm.level x ≠ closed) :
    exec (.contactEdge x closed) s = .next { s with
      cm := s.cm.record x closed
      port := { s.port with recGen := s.port.recGen + 2, alert := s.port.alert ||| 1#7 } } := by
  have hshown : s.cm.shownLevel x ≠ closed := by rwa [inv.shownLevel_eq (by simp [hs])]
  have hchange : (s.cm.record x closed).recordFields ≠ s.cm.recordFields :=
    CouplingMonitor.recordFields_ne_of_shownLevel_ne (x := x)
      (by rw [CouplingMonitor.shownLevel_record]; exact hshown.symm)
  rw [exec_contactEdge_of_level_ne hx, State.edge, hs]
  exact congrArg _ (State.setMonitor_changed s _ hchange)

/-- Settles O8: `exec_contactEdge_of_dormant` and `exec_contactEdge_of_faulted` for each contact. -/
theorem edgeInDormantAndFaulted : Obligations.EdgeInDormantAndFaulted :=
  fun s closed inv => ⟨exec_contactEdge_of_dormant s .first closed, exec_contactEdge_of_dormant s .last closed,
    exec_contactEdge_of_faulted (x := .first) inv, exec_contactEdge_of_faulted (x := .last) inv,
    fun _ => exec_contactEdge_of_level_eq s⟩

/-! ### The settle expiry (R7) -/

theorem exec_settleExpiry_of_runs {s : State} (inv : MonitorInv s) (h : s.cm.settle ≠ none) :
    exec .settleExpiry s = .next s.settled := by
  rw [exec_settleExpiry, if_pos ⟨inv.settle h, Option.isSome_iff_ne_none.2 h⟩]

theorem CouplingMonitor.recordFields_ne_of_partialMate_ne {c d : CouplingMonitor}
    (h : c.partialMate ≠ d.partialMate) : c.recordFields ≠ d.recordFields :=
  fun heq => h (congrArg (fun r => r.2.2.2.1) heq)

theorem State.settled_of_closed {s : State} (hs : s.cm.state = .making) (hf : s.cm.first = true)
    (hl : s.cm.last = true) : s.settled = { s with
      cm := { s.cm with state := .powering, settle := none }
      port := { s.port with recGen := s.port.recGen + 2, alert := s.port.alert ||| 1#7 }
      given := s.given ++ [.captureNotice] } := by
  have hchange : CouplingMonitor.recordFields { s.cm with state := .powering, settle := none } ≠ s.cm.recordFields :=
    CouplingMonitor.recordFields_ne_of_state_ne (by simp [hs])
  simp only [State.settled, hf, hl, State.give]
  rw [State.setMonitor_changed _ _ (by simpa [hf, hl] using hchange)]

theorem State.settled_of_open {s : State} (hs : s.cm.state = .making) (hf : s.cm.first = false)
    (hl : s.cm.last = false) : s.settled = { s with
      cm := { s.cm with state := .opened, settle := none }
      port := { s.port with recGen := s.port.recGen + 2, alert := s.port.alert ||| 1#7 }
      given := s.given ++ [.stopNotice, .feedsOffCommand] } := by
  have hchange : CouplingMonitor.recordFields { s.cm with state := .opened, settle := none } ≠ s.cm.recordFields :=
    CouplingMonitor.recordFields_ne_of_state_ne (by simp [hs])
  simp only [State.settled, hf, hl, State.give]
  rw [State.setMonitor_changed _ _ (by simpa [hf, hl] using hchange)]

theorem State.settled_of_half {s : State} (hp : s.cm.partialMate = false) (hfl : s.cm.first ≠ s.cm.last) :
    s.settled = { s with
      cm := { s.cm with settle := none, partialMate := true }
      port := { s.port with recGen := s.port.recGen + 2, alert := s.port.alert ||| 1#7 } } := by
  have hchange : CouplingMonitor.recordFields { s.cm with settle := none, partialMate := true } ≠
      s.cm.recordFields := CouplingMonitor.recordFields_ne_of_partialMate_ne (by simp [hp])
  rw [← State.setMonitor_changed _ _ hchange]
  unfold State.settled
  split
  · rename_i hf hl; exact absurd (hf.trans hl.symm) hfl
  · rename_i hf hl; exact absurd (hf.trans hl.symm) hfl
  · rfl

/-- Settles O9: one lemma for each outcome; PARTIAL is clear while the settle timer runs. -/
theorem settleExpiryOutcomes : Obligations.SettleExpiryOutcomes := by
  intro s inv h
  have hs := inv.settle h
  have hp : s.cm.partialMate = false := by
    simpa using mt (inv.waits hs).2 h
  rw [exec_settleExpiry_of_runs inv h]
  exact ⟨fun hf hl => congrArg _ (State.settled_of_closed hs hf hl),
    fun hf hl => ⟨_, .refl _, congrArg _ (State.settled_of_open hs hf hl)⟩,
    fun hfl => congrArg _ (State.settled_of_half hp hfl)⟩

/-! ### From POWERING to SERVING (R8 to R11) -/

/-- Settles O10: the report in POWERING and elsewhere, and the expiry's change of state. -/
theorem poweringReachesDiscovering : Obligations.PoweringReachesDiscovering := by
  refine ⟨fun s hs => ?_, fun s hs => ?_, fun s hs hw => ⟨_, .refl _, ?_⟩⟩
  · rw [exec_logicOnReport, if_pos hs]; rfl
  · rw [exec_logicOnReport, if_neg hs]; rfl
  · have hchange : CouplingMonitor.recordFields { s.cm with state := .discovering, powerWait := none } ≠
        s.cm.recordFields := CouplingMonitor.recordFields_ne_of_state_ne (by simp [hs])
    rw [exec_powerWaitExpiry_of_runs s hs hw, State.setMonitor_changed _ _ hchange]; rfl

theorem CouplingMonitor.retry_eq (fu : Bool) (c : CouplingMonitor) :
    c.retry fu = { c with passRetry := if fu then some c.passRetryMs else c.passRetry } := by
  cases fu <;> rfl

/-- Settles O11: the report by coupling state, the pass start, and the expiry. -/
theorem passEndEntersServing : Obligations.PassEndEntersServing := by
  refine ⟨fun s r fu => ⟨fun hs => ⟨_, .refl _, ?_⟩, fun hs => ?_, exec_passEndReport_of_lineOff s r fu⟩,
    fun s hs => ?_, fun s hd hs => ?_, fun s hs hw => ?_⟩
  · have hchange : CouplingMonitor.recordFields { s.cm.retry fu with state := .serving } ≠
        (s.take (.passEndReport r fu)).directoryServes.cm.recordFields :=
      CouplingMonitor.recordFields_ne_of_state_ne (by simp [hs])
    rw [exec_passEndReport_of_discovering s r fu hs, State.setMonitor_changed _ _ hchange,
      CouplingMonitor.retry_eq]; rfl
  · have hsame : (s.cm.retry fu).recordFields = (s.take (.passEndReport r fu)).cm.recordFields := by
      rw [CouplingMonitor.retry_eq]; rfl
    rw [exec_passEndReport_of_serving s r fu hs, State.setMonitor_same _ _ hsame, CouplingMonitor.retry_eq]; rfl
  · rw [exec_passStartReport, if_pos (s.cm.state.lineOn_iff.2 hs)]; rfl
  · rw [exec_passStartReport, if_neg (by simpa using (s.cm.state.lineOn_eq_false_iff.2 ⟨hd, hs⟩))]; rfl
  · rw [exec_passRetryExpiry, if_pos ⟨hs, Option.isSome_iff_ne_none.2 hw⟩]; rfl

/-! ### FAULTED (R14 to R16) -/

/-- Out of a coupled state the settle timer is stopped already, and the state field changes. -/
theorem State.enterFaulted_of_coupled {s : State} (inv : MonitorInv s) (hs : s.cm.state.coupled = true)
    (cause : FaultCause) : s.enterFaulted cause = { s with
      cm := { s.cm with state := .faulted, cause := cause, powerWait := none, passRetry := none }
      port := { s.port with recGen := s.port.recGen + 2, alert := s.port.alert ||| 1#7 }
      given := s.given ++ (.sampleNotice :: lossGiven s.cm.state .faulted) } := by
  have hsettle : s.cm.settle = none := by
    by_contra h; simp [inv.settle h, CouplingState.coupled] at hs
  have hchange : CouplingMonitor.recordFields { s.cm.stopWaits with
      state := .faulted, cause := cause, settle := none } ≠ s.cm.recordFields :=
    CouplingMonitor.recordFields_ne_of_state_ne (by rintro h; simp [← h, CouplingState.coupled] at hs)
  rw [State.enterFaulted, State.setMonitor_changed _ _ hchange]
  simp only [State.give, CouplingMonitor.stopWaits, ← hsettle]

/-- The invariant speaks of no notice. -/
theorem MonitorInv.take {s : State} (inv : MonitorInv s) (c : Instr) : MonitorInv (s.take c) :=
  ⟨inv.hold, inv.closed, inv.opened, inv.shown, inv.settle, inv.powerWait, inv.passRetry, inv.half, inv.waits,
    inv.cause⟩

/-- Settles O12: both notices by `State.enterFaulted_of_coupled`, or only taken. -/
theorem faultEntry : Obligations.FaultEntry := by
  intro s inv
  have hgiven : ∀ c : CouplingState, c.lineOn = true → lossGiven c .faulted =
      .lineInactiveNotice :: lossNotices .faulted := fun c h => by simp [lossGiven, h]
  refine ⟨fun hs => ⟨s.given.erase .stageBNotice ++ (.sampleNotice :: lossGiven s.cm.state .faulted), ?_, ?_⟩,
    fun hs => ?_, fun hs => ⟨s.given.erase .lineHeldNotice ++ (.sampleNotice :: lossGiven s.cm.state .faulted), ?_, ?_⟩,
    fun hs => ?_⟩
  · rw [lossGiven_of_coupled hs]
    simp only [List.append_assoc, List.cons_append, List.nil_append]
    exact .refl _
  · rw [exec_stageBNotice, if_pos hs, State.enterFaulted_of_coupled (inv.take _) hs]; rfl
  · rw [exec_stageBNotice, if_neg (by simp [hs])]; rfl
  · rw [hgiven _ hs]; exact .refl _
  · rw [exec_lineHeldNotice, if_pos hs,
      State.enterFaulted_of_coupled (inv.take _) ((CouplingState.coupled_iff _).2 (.inr hs))]; rfl
  · rw [exec_lineHeldNotice, if_neg (by simp [hs])]; rfl

end Sys2Proof.Machine
end

section
/-! PROOFS. What the commands keep: the commands of the line side leave the kept part of the state (`State.kept`) as it is,
and the few others change it in the ways `PassesKept` lists. A property of the kept part is an invariant of every step
once it passes through those. -/

namespace Sys2Proof.Machine

/-! ### The block as a whole -/

/-- Settles O1: both are the two branches of `step`. -/
theorem stepRunsFrontCommand : Obligations.StepRunsFrontCommand :=
  ⟨fun _ _ _ => rfl, fun s h => by rw [step, h]⟩

/-- An empty queue idles, and otherwise the front command runs: every property of a step is one of `exec`. -/
theorem step_cases {s t : State} (h : step s = .next t) :
    t = s ∨ ∃ c rest, s.pending = c :: rest ∧ exec c { s with pending := rest } = .next t := by
  unfold step at h
  split at h
  · exact .inl (Host.Outcome.next.inj h).symm
  · rename_i c rest hp
    exact .inr ⟨c, rest, hp, h⟩

/-! ### Commands of the line side -/

/-- The commands of the line unit, walker, directory, roll caller and request unit that leave the kept part as it is. -/
def keepsSettings : Instr → Bool
  | .lineActiveNotice | .lineInactiveNotice | .lineCouplingLost _ | .lineServingNotice | .callSent | .answerEnd _
  | .windowEnd _ | .callGapEnd | .lineClearLowEnd | .lineClearSent | .lineHeld _ | .groupAbandoned _
  | .firstPassNotice | .passWantedNotice _ | .retryDueNotice | .roundEndNotice | .walkerLineClearSent
  | .walkerCouplingLost _ | .claimOutcomeReport .. | .directoryReleaseSent _ | .directoryLineClearSent
  | .moveReleaseReport .. | .moveOutcomeReport .. | .rollReport .. | .rollPeriodExpiry | .rollServingNotice
  | .rollCouplingLost _ | .withdraw .. | .askInvalidIntent .. | .requestWaitExpiry _ | .requestLineClearSent
  | .requestCouplingLost _ | .requestServingNotice | .requestDiscoveringNotice | .alertClear _ | .bothStrobes => true
  | _ => false

/-- The commands of the coupling monitor and of the feed supervisor. -/
def ofMonitorOrFeed : Instr → Bool
  | .contactEdge .. | .settleExpiry | .logicOnReport | .powerWaitExpiry | .passEndReport .. | .passStartReport
  | .passRetryExpiry | .stageBNotice | .lineHeldNotice | .sampleNotice | .stopNotice | .captureNotice
  | .sampleCompletion .. | .feedsOffCommand | .feedCouplingLost _ => true
  | _ => false

@[simp] theorem State.takePassWanted_kept (s : State) : s.takePassWanted.kept = s.kept := by
  unfold State.takePassWanted; split <;> simp

@[simp] theorem State.withdrawAsk_kept (k : SlotNo) (ticket : Byte) (s : State) :
    (s.withdrawAsk k ticket).kept = s.kept := by
  unfold State.withdrawAsk; dsimp only; repeat' split
  all_goals rfl

@[simp] theorem State.requestLoss_kept (r : LossReason) (s : State) : (s.requestLoss r).kept = s.kept :=
  s.endSlots_kept (Slot.lost r)

theorem State.rollExpiry_kept (s : State) : s.rollExpiry.kept = s.kept := by
  unfold State.rollExpiry; dsimp only
  split
  · rfl
  · split
    · rw [State.beginRound_kept]; rfl
    · rw [State.decideGrant_kept, State.beginRound_kept]; rfl

theorem exec_kept {c : Instr} (hc : keepsSettings c = true) {s t : State} (h : exec c s = .next t) :
    t.kept = s.kept := by
  cases c <;> try exact absurd hc Bool.false_ne_true
  all_goals obtain rfl := Host.Outcome.next.inj h
  case lineActiveNotice =>
    dsimp only; split
    · simp; rfl
    · rfl
  case lineInactiveNotice => simp
  case lineCouplingLost => simp
  case lineServingNotice =>
    dsimp only; split
    · simp; rfl
    · rfl
  case callSent => split <;> first | (split <;> simp) | simp
  case answerEnd => split <;> simp
  case windowEnd => split <;> first | (dsimp only; split <;> simp) | rfl
  case callGapEnd => split <;> first | (split <;> simp) | rfl
  case lineClearLowEnd => split <;> simp
  case lineClearSent => split <;> simp
  case lineHeld => simp
  case groupAbandoned c => cases c <;> first | rfl | simp
  case firstPassNotice => split <;> simp
  case passWantedNotice => simp
  case retryDueNotice => dsimp only; split <;> first | rfl | simp
  case roundEndNotice =>
    dsimp only; split
    · split <;> first | rfl | (rw [State.decideGrant_kept]; rfl)
    · rfl
  case walkerLineClearSent => split <;> simp
  case walkerCouplingLost => simp
  case claimOutcomeReport => simp
  case directoryReleaseSent => simp
  case directoryLineClearSent => simp
  case moveReleaseReport => simp
  case moveOutcomeReport => simp
  case rollReport => simp
  case rollPeriodExpiry => split <;> first | exact s.rollExpiry_kept | rfl
  case rollServingNotice => dsimp only; split <;> rfl
  case rollCouplingLost => simp
  case withdraw => simp
  case askInvalidIntent => rfl
  case requestWaitExpiry => split <;> simp
  case requestLineClearSent => simp
  case requestCouplingLost => simp
  case requestServingNotice => split <;> simp
  case requestDiscoveringNotice => rfl
  case alertClear => rfl
  case bothStrobes => rfl

/-! ### Posts and host writes -/

/-- The eleven post rows: each is one ASK write with intent POST, judged by the slot (log 19). -/
def postsOf (k : SlotNo) (ticket : Byte) : List Instr :=
  [.readRequest k ticket, .writeRequest k ticket, .moveRequest k ticket, .forgetRequest k ticket,
    .searchRequest k ticket, .reseatRequest k ticket, .retimeRequest k ticket, .limitsRequest k ticket,
    .driveRequest k ticket, .rearmRequest k ticket, .postUnknownKind k ticket]

theorem exec_post {k : SlotNo} {ticket : Byte} {c : Instr} (hc : c ∈ postsOf k ticket) (s : State) :
    exec c s = .next (s.post k ticket) := by
  simp only [postsOf, List.mem_cons, List.not_mem_nil, or_false] at hc
  rcases hc with rfl | rfl | rfl | rfl | rfl | rfl | rfl | rfl | rfl | rfl | rfl <;> rfl

theorem exec_acknowledgement (n : Name) (v : Word) (s : State) :
    exec (.acknowledgement n v) s = .next (s.writeSeen n v) := rfl

theorem exec_runEntry (s : State) : exec .runEntry s = .next s.writeRunOne := rfl

theorem exec_softHold (s : State) : exec .softHold s = .next s.writeRunZero := rfl

/-- What a property of the kept part has to pass through, beyond the monitor's and the feed supervisor's commands, to be
kept by every command. -/
structure PassesKept (P : State → Prop) : Prop where
  kept : ∀ {s t : State}, t.kept = s.kept → P s → P t
  retime : ∀ (a b c d : Word) (s : State), P s → P (s.doRetime a b c d).1
  limits : ∀ (a b c d e : Word) (s : State), P s → P (s.doLimits a b c d e).1
  drive : ∀ (a : Word) (s : State), P s → P (s.doDrive a).1
  rearm : ∀ s : State, P s → P s.doRearm.1
  seen : ∀ (v : Vector Word 62) (s : State), P s → P { s with port := { s.port with seen := v } }
  alertMask : ∀ (m : BitVec 7) (s : State), P s → P { s with port := { s.port with alertMask := m } }
  params : ∀ (p : Params) (s : State), s.port.run = false → P s → P { s with port := { s.port with params := p } }
  classMap : ∀ (m : Vector ClassEntry 64) (s : State), s.port.run = false → P s →
    P { s with port := { s.port with classMap := m } }
  enterRun : ∀ s : State, s.port.run = false → P s → P s.enterRun
  softHold : ∀ s : State, s.port.run = true → P s → P s.softHold

namespace PassesKept

variable {P : State → Prop} (hP : PassesKept P)
include hP

theorem completeRequest {s : State} (k : SlotNo) (r : Result) (ws : List Word) (h : P s) :
    P (s.completeRequest k r ws) := hP.kept (s.completeRequest_kept k r ws) h

theorem judgeRequest {s : State} (k : SlotNo) (q : Request) (h : P s) : P (s.judgeRequest k q) := by
  have hline : ∀ q, (s.judgeLine k q).kept = s.kept := by
    intro q; unfold State.judgeLine; repeat' split
    all_goals simp
  have hreseat : (s.judgeReseat k).kept = s.kept := by
    unfold State.judgeReseat; dsimp only; split
    · rw [State.decideGrant_kept]; rfl
    · simp
  cases q with
  | line q =>
    cases q with
    | reseat => exact hP.kept hreseat h
    | _ => exact hP.kept (hline _) h
  | forget n => exact hP.kept (by simp [State.judgeRequest]) h
  | search =>
    have hsearch : s.doSearch.1.kept = s.kept := by
      unfold State.doSearch; split <;> simp
    exact hP.completeRequest k _ _ (hP.kept hsearch h)
  | retime => exact hP.completeRequest k _ _ (hP.retime _ _ _ _ _ h)
  | limits => exact hP.completeRequest k _ _ (hP.limits _ _ _ _ _ _ h)
  | drive => exact hP.completeRequest k _ _ (hP.drive _ _ h)
  | rearm => exact hP.completeRequest k _ _ (hP.rearm _ h)

theorem post {s : State} (k : SlotNo) (ticket : Byte) (h : P s) : P (s.post k ticket) := by
  unfold State.post; dsimp only
  split
  · have hshown : P ((s.storeAsk k (askWord 1 ticket)).putSlot k
        { (s.storeAsk k (askWord 1 ticket)).slot k with ticket := ticket }) := hP.kept (s := s) rfl h
    unfold State.judgeAccepted
    split
    · split
      · exact hP.completeRequest _ _ _ hshown
      · exact hP.judgeRequest _ _ hshown
    · exact hP.completeRequest _ _ _ hshown
  · exact hP.kept (s := s) rfl h

theorem writeSeen {s : State} (n : Name) (v : Word) (h : P s) : P (s.writeSeen n v) := by
  have hstored := hP.seen (s.port.seen.set n.val v n.isLt) s h
  unfold State.writeSeen; dsimp only
  split
  · exact hP.kept (by simp) hstored
  · exact hstored

theorem writeRunOne {s : State} (h : P s) : P s.writeRunOne := by
  unfold State.writeRunOne; split
  · exact h
  · rename_i hr; exact hP.enterRun s (by simpa using hr) h

theorem writeRunZero {s : State} (h : P s) : P s.writeRunZero := by
  unfold State.writeRunZero; split
  · rename_i hr; exact hP.softHold s hr h
  · exact h

theorem writeAsk {s : State} (k : SlotNo) (v : Word) (h : P s) : P (s.writeAsk k v) := by
  unfold State.writeAsk; split
  · exact hP.post _ _ h
  · exact hP.kept (by simp) h
  · exact hP.kept (s := s) rfl h

/-- A stored write to a parameter or class map word is one in HOLD (R135). -/
theorem storeWord {s : State} (a : Area) (v : Word)
    (hr : s.port.run = false ∨ ((∀ k, a ≠ .param k) ∧ ∀ c k, a ≠ .classMap c k)) (h : P s) :
    P (s.storeWord a v) := by
  cases a with
  | param k => exact hP.params _ s (hr.resolve_right fun hn => hn.1 k rfl) h
  | classMap c k => exact hP.classMap _ s (hr.resolve_right fun hn => hn.2 c k rfl) h
  | seen n => exact hP.writeSeen n v h
  | slot j k =>
    simp only [State.storeWord]; split
    · exact hP.writeAsk j v h
    · exact hP.kept (s := s) rfl h
  | runctl =>
    simp only [State.storeWord]; split
    · exact hP.writeRunOne h
    · exact hP.writeRunZero h
  | alert => exact hP.kept (s := s) rfl h
  | alertmask => exact hP.alertMask _ s h
  | _ => exact h

theorem hostWrite {s : State} (addr : BitVec 11) (v : Word) (h : P s) :
    P (if s.hostWrites addr then s.storeWord (areaOf addr) v else s.dropWrite) := by
  split
  · rename_i hw
    refine hP.storeWord _ v ?_ h
    unfold State.hostWrites at hw
    cases ha : areaOf addr <;> simp_all
  · exact hP.kept (s := s) rfl h

/-- All commands but the monitor's and the feed supervisor's own, the hard reset and the coupling-lost notice at the
directory unit. -/
theorem exec {c : Instr} {s t : State} (hm : ofMonitorOrFeed c = false) (hr : ∀ f l, c ≠ .hardReset f l)
    (hd : ∀ r, c ≠ .directoryCouplingLost r) (h : Machine.exec c s = .next t) (hs : P s) : P t := by
  cases hk : keepsSettings c with
  | true => exact hP.kept (exec_kept hk h) hs
  | false =>
    cases c <;> try first | exact absurd hm.symm Bool.false_ne_true | exact absurd hk.symm Bool.false_ne_true
    all_goals obtain rfl := Host.Outcome.next.inj h
    case hardReset f l => exact absurd rfl (hr f l)
    case directoryCouplingLost r => exact absurd rfl (hd r)
    case acknowledgement n v => exact hP.writeSeen n v hs
    case runEntry => exact hP.writeRunOne hs
    case softHold => exact hP.writeRunZero hs
    case alertmaskWrite v => exact hP.alertMask _ s hs
    case hostWrite addr v => exact hP.hostWrite addr v hs
    all_goals exact hP.post _ _ hs

end PassesKept

end Sys2Proof.Machine
end

section
/-! PROOFS. Every command completes, and every step keeps the coupling monitor's invariant (R1 to R19). -/

namespace Sys2Proof.Machine

/-! ### The queue -/

@[simp] theorem State.setMonitor_run (c : CouplingMonitor) (s : State) :
    (s.setMonitor c).port.run = s.port.run := by
  unfold State.setMonitor; dsimp only; split <;> rfl

@[simp] theorem State.setFeed_run (a : Alert) (f : FeedSupervisor) (s : State) :
    (s.setFeed a f).port.run = s.port.run := by
  unfold State.setFeed; dsimp only; split <;> rfl

theorem State.evaluateSeen_kept (l : List Name) (s : State) : (State.evaluateSeen l s).kept = s.kept := by
  induction l generalizing s with
  | nil => rfl
  | cons n rest ih => rw [State.evaluateSeen, ih, State.acknowledge_kept]

/-- The lowering of the live fields touches the directory's entries and offer record alone. -/
theorem State.lowerLive_kept (a b : Nat) (s : State) : (s.lowerLive a b).kept = s.kept := by
  simp only [State.lowerLive, State.kept]

/-- RUN entry up to the coupling monitor's part, as far as the kept part goes. -/
theorem State.enterRun_kept (s : State) : ∃ u : State, u.kept = s.clampSettings.takeValues.kept ∧
    s.enterRun = u.monitorEntry :=
  ⟨s.clampSettings.takeValues.decideIfJoined (State.evaluateSeen allNames (s.clampSettings.takeValues.lowerLive
      s.clampSettings.takeValues.roll.strikeLimit s.clampSettings.takeValues.roll.keepRounds)),
    by rw [State.decideIfJoined_kept, State.evaluateSeen_kept, State.lowerLive_kept], by rw [State.enterRun]⟩

theorem State.clampSettings_eq (s : State) : s.clampSettings = { s with
    port := { s.port.entered with
      alert := if s.port.clampChanges then s.port.alert ||| 64#7 else s.port.alert } } := by
  unfold State.clampSettings; split <;> rfl

theorem State.monitorEntry_pending (s : State) : s.monitorEntry.pending = s.pending := by
  unfold State.monitorEntry; dsimp only; split <;> simp

theorem State.doRetime_pending (a b c d : Word) (s : State) : (s.doRetime a b c d).1.pending = s.pending := by
  unfold State.doRetime; dsimp only [State.lowerLive]; split <;> rfl

theorem State.doLimits_pending (a b c d e : Word) (s : State) : (s.doLimits a b c d e).1.pending = s.pending := by
  unfold State.doLimits; dsimp only; split <;> rfl

theorem State.doDrive_pending (a : Word) (s : State) : (s.doDrive a).1.pending = s.pending := by
  unfold State.doDrive; repeat' split
  all_goals simp

theorem State.monitorRearm_pending (s : State) : s.monitorRearm.pending = s.pending := by
  unfold State.monitorRearm; split <;> simp

theorem State.doRearm_pending (s : State) : s.doRearm.1.pending = s.pending := by
  unfold State.doRearm; dsimp only; repeat' split
  all_goals simp [State.monitorRearm_pending]

theorem State.softHold_pending (s : State) : s.softHold.pending = s.pending := by
  unfold State.softHold State.monitorHold State.feedLoss; dsimp only; split <;> simp

/-- No command outside the hard reset's kind touches the queue. -/
theorem passesKept_pending (q : List Instr) : PassesKept fun s => s.pending = q where
  kept h hs := (congrArg Kept.pending h).trans hs
  retime a b c d s hs := (s.doRetime_pending a b c d).trans hs
  limits a b c d e s hs := (s.doLimits_pending a b c d e).trans hs
  drive a s hs := (s.doDrive_pending a).trans hs
  rearm s hs := s.doRearm_pending.trans hs
  seen _ _ hs := hs
  alertMask _ _ hs := hs
  params _ _ _ hs := hs
  classMap _ _ _ hs := hs
  enterRun s _ hs := by
    obtain ⟨u, hu, he⟩ := s.enterRun_kept
    have hc : s.clampSettings.takeValues.pending = s.pending := by rw [State.clampSettings_eq]; rfl
    exact ((congrArg State.pending he).trans (u.monitorEntry_pending.trans (congrArg Kept.pending hu))).trans
      (hc.trans hs)
  softHold s _ hs := s.softHold_pending.trans hs

/-! ### The coupling monitor -/

/-- The monitor's and the feed supervisor's commands leave the line side as it is, but for the directory unit's mark at
the entry to SERVING. -/
theorem exec_ofMonitorOrFeed {c : Instr} (hc : ofMonitorOrFeed c = true) {s t : State} (h : exec c s = .next t) :
    t.line = s.line ∧ t.walker = s.walker ∧ t.roll = s.roll ∧ t.req = s.req ∧ t.callRetries = s.callRetries ∧
    t.pending = s.pending ∧ t.dir.entries = s.dir.entries ∧ t.dir.offer = s.dir.offer ∧
    t.dir.ackMask = s.dir.ackMask := by
  cases c <;> try exact absurd hc Bool.false_ne_true
  all_goals obtain rfl := Host.Outcome.next.inj h
  case contactEdge x closed =>
    split
    · simp
    · unfold State.edge State.decouple; split <;> simp
  case settleExpiry =>
    split
    · unfold State.settled; dsimp only; split <;> simp
    · simp
  case passEndReport r fu => split <;> simp
  case stageBNotice => split <;> simp [State.enterFaulted]
  case lineHeldNotice => split <;> simp [State.enterFaulted]
  case sampleCompletion rl rd =>
    repeat' split
    · unfold State.captureSample; dsimp only; split <;> simp
    · simp
    · unfold State.compareSample; dsimp only; repeat' split
      all_goals simp
    · simp
  case feedCouplingLost r => simp [State.feedLoss]
  case feedsOffCommand => simp
  case powerWaitExpiry => split <;> simp
  all_goals first | (split <;> simp) | simp

/-- Settles O2: a command answers a next state by its equation, and touches no queue by `passesKept_pending` and
`exec_ofMonitorOrFeed`. -/
theorem everyCommandCompletes : Obligations.EveryCommandCompletes := by
  intro c s
  obtain ⟨t, ht⟩ : ∃ t, exec c s = .next t := by cases c <;> exact ⟨_, rfl⟩
  refine ⟨t, ht, ?_⟩
  cases hm : ofMonitorOrFeed c with
  | true =>
    obtain ⟨-, -, -, -, -, hp, -⟩ := exec_ofMonitorOrFeed hm ht
    exact hp
  | false =>
    by_cases hr : ∃ f l, c = .hardReset f l
    · obtain ⟨f, l, rfl⟩ := hr
      obtain rfl := Host.Outcome.next.inj ht; rfl
    · by_cases hd : ∃ r, c = .directoryCouplingLost r
      · obtain ⟨r, rfl⟩ := hd
        obtain rfl := Host.Outcome.next.inj ht
        exact congrArg Kept.pending (s.take (.directoryCouplingLost r)).directoryLoss_kept
      · push Not at hr hd
        exact (passesKept_pending s.pending).exec hm hr hd ht rfl

end Sys2Proof.Machine
end

section
/-! PROOFS. Every step keeps the coupling monitor's invariant (R1 to R19). -/

namespace Sys2Proof.Machine

variable {s : State}

/-! ### What the invariant says outside one coupling state -/

namespace MonitorInv

theorem settle_none (inv : MonitorInv s) (h : s.cm.state ≠ .making) : s.cm.settle = none := by
  by_contra hn; exact h (inv.settle hn)

theorem powerWait_none (inv : MonitorInv s) (h : s.cm.state ≠ .powering) : s.cm.powerWait = none := by
  by_contra hn; exact h (inv.powerWait hn)

theorem passRetry_none (inv : MonitorInv s) (h : s.cm.state ≠ .serving) : s.cm.passRetry = none := by
  by_contra hn; exact h (inv.passRetry hn)

theorem partial_clear (inv : MonitorInv s) (h : s.cm.state ≠ .making) : s.cm.partialMate = false := by
  rw [← Bool.not_eq_true]; exact fun hp => h (inv.half hp).1

theorem cause_none (inv : MonitorInv s) (h : s.cm.state ≠ .faulted) : s.cm.cause = .none := by
  by_contra hn; exact h (inv.cause.1 hn)

/-- The invariant reads the coupling monitor and the run state alone. -/
theorem of_eq {t : State} (inv : MonitorInv s) (hc : t.cm = s.cm) (hr : t.port.run = s.port.run) : MonitorInv t := by
  obtain ⟨h1, h2, h3, h4, h5, h6, h7, h8, h9, h10⟩ := inv
  rw [← hc] at h1 h2 h3 h4 h5 h6 h7 h8 h9 h10
  exact ⟨by rw [hr]; exact h1, h2, h3, h4, h5, h6, h7, h8, h9, h10⟩

theorem of_kept {t : State} (h : t.kept = s.kept) (inv : MonitorInv s) : MonitorInv t :=
  inv.of_eq (congrArg Kept.cm h) (congrArg (fun k : Kept => k.port.run) h)

end MonitorInv

/-! ### The monitor's states as its own operations leave them -/

section
variable {t : State} {c : CouplingMonitor} (hc : t.cm = c)
include hc

/-- MAKING with the settle timer running. -/
theorem monitorInv_making (hr : t.port.run = true) (hs : c.state = .making) (ht : c.settle.isSome = true)
    (hp : c.partialMate = false) (hpw : c.powerWait = none) (hpr : c.passRetry = none) (hca : c.cause = .none)
    (hsh : c.shownFirst = c.first ∧ c.shownLast = c.last) : MonitorInv t := by
  subst hc
  constructor <;> simp_all [CouplingState.coupled, Option.isSome_iff_ne_none]

/-- DORMANT, OPEN and the coupled states, in each of which the settle timer is stopped and PARTIAL and the cause clear. -/
theorem monitorInv_settled (hrun : t.port.run = false ↔ c.state = .dormant) (hm : c.state ≠ .making)
    (hf : c.state ≠ .faulted) (hcl : c.state.coupled = true → c.first = true ∧ c.last = true)
    (hop : c.state = .opened → c.first = false ∧ c.last = false)
    (hsh : c.state ≠ .dormant → c.shownFirst = c.first ∧ c.shownLast = c.last) (ht : c.settle = none)
    (hp : c.partialMate = false) (hpw : c.powerWait ≠ none → c.state = .powering)
    (hpr : c.passRetry ≠ none → c.state = .serving) (hca : c.cause = .none) : MonitorInv t := by
  subst hc
  exact ⟨hrun, hcl, hop, hsh, by simp [ht], hpw, hpr, by simp [hp], by simp [hm], by simp [hca, hf]⟩

/-- FAULTED with its cause. -/
theorem monitorInv_faulted (hr : t.port.run = true) (hs : c.state = .faulted) (ht : c.settle = none)
    (hp : c.partialMate = false) (hpw : c.powerWait = none) (hpr : c.passRetry = none) (hca : c.cause ≠ .none)
    (hsh : c.shownFirst = c.first ∧ c.shownLast = c.last) : MonitorInv t := by
  subst hc
  constructor <;> simp_all [CouplingState.coupled]

end

/-! ### The monitor's operations -/

namespace MonitorInv

variable (inv : MonitorInv s)
include inv

theorem run_of_ne (h : s.cm.state ≠ .dormant) : s.port.run = true := by
  rw [← Bool.not_eq_false]; exact fun hr => h (inv.hold.1 hr)

theorem shown_record (h : s.cm.state ≠ .dormant) (x : Contact) (closed : Bool) :
    (s.cm.record x closed).shownFirst = (s.cm.record x closed).first ∧
    (s.cm.record x closed).shownLast = (s.cm.record x closed).last := by
  obtain ⟨hf, hl⟩ := inv.shown h
  cases x with
  | first => exact ⟨rfl, hl⟩
  | last => exact ⟨hf, rfl⟩

theorem decouple (h : s.cm.state.coupled = true) (x : Contact) (closed : Bool) :
    MonitorInv (s.decouple x closed) := by
  have hd : s.cm.state ≠ .dormant := by rintro h'; simp [h', CouplingState.coupled] at h
  have hm : s.cm.state ≠ .making := by rintro h'; simp [h', CouplingState.coupled] at h
  have hf : s.cm.state ≠ .faulted := by rintro h'; simp [h', CouplingState.coupled] at h
  have hp := inv.partial_clear hm
  have hca := inv.cause_none hf
  have hrec : (s.cm.record x closed).partialMate = false ∧ (s.cm.record x closed).cause = .none := by
    cases x <;> exact ⟨hp, hca⟩
  refine monitorInv_making (State.setMonitor_cm _ _) ?_ rfl rfl hrec.1 rfl rfl hrec.2 (inv.shown_record hd x closed)
  exact (State.setMonitor_run _ s).trans (inv.run_of_ne hd)

theorem enterFaulted (h : s.cm.state.coupled = true) (cause : FaultCause) (hc : cause ≠ .none) :
    MonitorInv (s.enterFaulted cause) := by
  have hd : s.cm.state ≠ .dormant := by rintro h'; simp [h', CouplingState.coupled] at h
  have hm : s.cm.state ≠ .making := by rintro h'; simp [h', CouplingState.coupled] at h
  refine monitorInv_faulted (State.setMonitor_cm _ _) ?_ rfl rfl (inv.partial_clear hm) rfl rfl hc (inv.shown hd)
  exact (State.setMonitor_run _ s).trans (inv.run_of_ne hd)

theorem edge (x : Contact) (closed : Bool) (hx : s.cm.level x ≠ closed) : MonitorInv (s.edge x closed) := by
  have hrun := fun c => State.setMonitor_run c s
  have hrec : ∀ c : CouplingMonitor, (c.record x closed).powerWait = c.powerWait ∧
      (c.record x closed).passRetry = c.passRetry ∧ (c.record x closed).cause = c.cause ∧
      (c.record x closed).partialMate = c.partialMate ∧ (c.record x closed).settle = c.settle ∧
      (c.record x closed).state = c.state := by
    intro c; cases x <;> exact ⟨rfl, rfl, rfl, rfl, rfl, rfl⟩
  obtain ⟨hpw, hpr, hca, hp, hst, hstate⟩ := hrec s.cm
  unfold State.edge
  cases hs : s.cm.state with
  | dormant =>
    refine monitorInv_settled (c := s.cm.sense x closed) rfl ?_ ?_ ?_ ?_ ?_ ?_ ?_ ?_ ?_ ?_ ?_ <;>
      cases x <;> simp [CouplingMonitor.sense, hs, CouplingState.coupled, inv.settle_none, inv.partial_clear,
        inv.powerWait_none, inv.passRetry_none, inv.cause_none, inv.hold]
  | opened =>
    refine monitorInv_making (State.setMonitor_cm _ s) ((hrun _).trans (inv.run_of_ne (by simp [hs]))) rfl rfl
      (hp.trans (inv.partial_clear (by simp [hs]))) (hpw.trans (inv.powerWait_none (by simp [hs])))
      (hpr.trans (inv.passRetry_none (by simp [hs]))) (hca.trans (inv.cause_none (by simp [hs])))
      (inv.shown_record (by simp [hs]) x closed)
  | making =>
    refine monitorInv_making (State.setMonitor_cm _ s) ((hrun _).trans (inv.run_of_ne (by simp [hs])))
      (hstate.trans hs) rfl rfl (hpw.trans (inv.powerWait_none (by simp [hs])))
      (hpr.trans (inv.passRetry_none (by simp [hs]))) (hca.trans (inv.cause_none (by simp [hs])))
      (inv.shown_record (by simp [hs]) x closed)
  | faulted =>
    refine monitorInv_faulted (State.setMonitor_cm _ s) ((hrun _).trans (inv.run_of_ne (by simp [hs])))
      (hstate.trans hs) (hst.trans (inv.settle_none (by simp [hs]))) (hp.trans (inv.partial_clear (by simp [hs])))
      (hpw.trans (inv.powerWait_none (by simp [hs]))) (hpr.trans (inv.passRetry_none (by simp [hs])))
      (by rw [hca]; exact inv.cause.2 hs) (inv.shown_record (by simp [hs]) x closed)
  | _ => exact inv.decouple (by simp [hs, CouplingState.coupled]) x closed

theorem settled (hs : s.cm.state = .making) : MonitorInv s.settled := by
  have hpw := inv.powerWait_none (by simp [hs])
  have hpr := inv.passRetry_none (by simp [hs])
  have hca := inv.cause_none (by simp [hs])
  have hsh := inv.shown (by simp [hs])
  have hr := inv.run_of_ne (by simp [hs])
  have hrun := fun c => (State.setMonitor_run c s).trans hr
  have hp : s.cm.first = s.cm.last → s.cm.partialMate = false := fun he => by
    rw [← Bool.not_eq_true]; exact fun hp => (inv.half hp).2 he
  unfold State.settled
  split
  · rename_i hf hl
    exact monitorInv_settled (State.setMonitor_cm _ s) (by simp [hr]) (by simp) (by simp) (fun _ => ⟨hf, hl⟩)
      (by simp) (fun _ => hsh) rfl (hp (by rw [hf, hl])) (by simp) (by simp [hpr]) hca
  · rename_i hf hl
    exact monitorInv_settled (State.setMonitor_cm _ s) (by simp [hr]) (by simp) (by simp)
      (by simp [CouplingState.coupled]) (fun _ => ⟨hf, hl⟩) (fun _ => hsh) rfl (hp (by rw [hf, hl]))
      (by simp [hpw]) (by simp [hpr]) hca
  · rename_i h1 h2
    have hne : s.cm.first ≠ s.cm.last := by
      cases hf : s.cm.first <;> cases hl : s.cm.last <;> simp_all
    constructor <;> simp_all [CouplingState.coupled]

theorem monitorRearm (hs : s.cm.state = .faulted) : MonitorInv s.monitorRearm := by
  have hpw := inv.powerWait_none (by simp [hs])
  have hpr := inv.passRetry_none (by simp [hs])
  have hp := inv.partial_clear (by simp [hs])
  have hsh := inv.shown (by simp [hs])
  have hr := inv.run_of_ne (by simp [hs])
  have hrun := fun c => (State.setMonitor_run c s).trans hr
  unfold State.monitorRearm
  split
  · exact monitorInv_making (State.setMonitor_cm _ s) (hrun _) rfl rfl hp hpw hpr rfl hsh
  · rename_i hlev
    exact monitorInv_settled (State.setMonitor_cm _ s) (by simp [hr]) (by simp) (by simp)
      (by simp [CouplingState.coupled]) (fun _ => by simpa using hlev) (fun _ => hsh)
      (inv.settle_none (by simp [hs])) hp (by simp [hpw]) (by simp [hpr]) rfl

theorem softHold : MonitorInv s.softHold := by
  unfold State.softHold; dsimp only
  split
  · rename_i hs
    exact ⟨by simp [hs], inv.closed, inv.opened, inv.shown, inv.settle, inv.powerWait, inv.passRetry, inv.half,
      inv.waits, inv.cause⟩
  · refine monitorInv_settled (State.setMonitor_cm _ _) ?_ ?_ ?_ ?_ ?_ ?_ rfl rfl ?_ ?_ rfl <;>
      simp [State.monitorHold, State.feedLoss, CouplingState.coupled, CouplingMonitor.stopWaits]

omit inv in
/-- RUN entry leaves OPEN or MAKING from any state whose waits are stopped. -/
theorem monitorEntry (hr : s.port.run = true) (ht : s.cm.settle = none) (hpw : s.cm.powerWait = none)
    (hpr : s.cm.passRetry = none) : MonitorInv s.monitorEntry := by
  have hrun := fun c => (State.setMonitor_run c s).trans hr
  unfold State.monitorEntry; dsimp only
  split
  · exact monitorInv_making (State.setMonitor_cm _ s) (hrun _) rfl rfl rfl hpw hpr rfl ⟨rfl, rfl⟩
  · rename_i hlev
    exact monitorInv_settled (State.setMonitor_cm _ s) (by simp [hr]) (by simp) (by simp)
      (by simp [CouplingState.coupled]) (fun _ => by simpa using hlev) (fun _ => ⟨rfl, rfl⟩) ht rfl
      (by simp [hpw]) (by simp [hpr]) rfl

theorem enterRun (hr : s.port.run = false) : MonitorInv s.enterRun := by
  have hs := inv.hold.1 hr
  obtain ⟨u, hu, he⟩ := s.enterRun_kept
  have hcm : u.cm = s.clampSettings.takeValues.cm := congrArg Kept.cm hu
  have hrun : u.port.run = s.clampSettings.takeValues.port.run := congrArg (fun k : Kept => k.port.run) hu
  rw [State.clampSettings_eq] at hcm hrun
  rw [he]
  refine monitorEntry hrun ?_ ?_ ?_ <;> rw [hcm]
  · exact inv.settle_none (by simp [hs])
  · exact inv.powerWait_none (by simp [hs])
  · exact inv.passRetry_none (by simp [hs])

end MonitorInv

/-! ### Every command -/

theorem State.doDrive_cm (a : Word) (s : State) : (s.doDrive a).1.cm = s.cm := by
  unfold State.doDrive; repeat' split
  all_goals simp

theorem State.doDrive_run (a : Word) (s : State) : (s.doDrive a).1.port.run = s.port.run := by
  unfold State.doDrive; repeat' split
  all_goals simp

theorem passesKept_monitor : PassesKept MonitorInv where
  kept h inv := inv.of_kept h
  retime a b c d s inv := inv.of_eq (by unfold State.doRetime; dsimp only [State.lowerLive]; split <;> rfl)
    (by unfold State.doRetime; dsimp only [State.lowerLive]; split <;> rfl)
  limits a b c d e s inv := inv.of_eq (by unfold State.doLimits; dsimp only; split <;> rfl)
    (by unfold State.doLimits; dsimp only; split <;> rfl)
  drive a s inv := inv.of_eq (s.doDrive_cm a) (s.doDrive_run a)
  rearm s inv := by
    unfold State.doRearm; dsimp only
    split
    · split
      · rename_i hs; exact (inv.monitorRearm hs).of_eq (State.setFeed_cm ..) (State.setFeed_run ..)
      · exact inv.of_eq (State.setFeed_cm ..) (State.setFeed_run ..)
    · exact inv
  seen _ _ inv := inv.of_eq rfl rfl
  alertMask _ _ inv := inv.of_eq rfl rfl
  params _ _ _ inv := inv.of_eq rfl rfl
  classMap _ _ _ inv := inv.of_eq rfl rfl
  enterRun _ hr inv := inv.enterRun hr
  softHold _ _ inv := inv.softHold

theorem MonitorInv.of_reset (f l : Bool) {t : State}
    (hc : t.cm = { first := f, last := l }) (hr : t.port.run = false) : MonitorInv t := by
  constructor <;> simp [hc, hr, CouplingState.coupled]

/-- The monitor's own commands and the feed supervisor's. -/
theorem MonitorInv.exec_ofMonitorOrFeed {c : Instr} {t : State} (hm : ofMonitorOrFeed c = true)
    (h : exec c s = .next t) (inv : MonitorInv s) : MonitorInv t := by
  cases c <;> try exact absurd hm Bool.false_ne_true
  all_goals obtain rfl := Host.Outcome.next.inj h
  case contactEdge x closed =>
    split
    · exact inv
    · rename_i hx; exact inv.edge x closed hx
  case settleExpiry =>
    split
    · rename_i hs; exact inv.settled hs.1
    · exact inv
  case logicOnReport =>
    dsimp only; split
    · rename_i hs
      exact ⟨inv.hold, inv.closed, inv.opened, inv.shown, inv.settle, fun _ => hs, inv.passRetry, inv.half,
        inv.waits, inv.cause⟩
    · exact inv.of_eq rfl rfl
  case powerWaitExpiry =>
    split
    · rename_i hs
      have hs := hs.1
      exact monitorInv_settled (State.setMonitor_cm _ s) (by simp [inv.run_of_ne, hs]) (by simp) (by simp)
        (fun _ => inv.closed (by simp [hs, CouplingState.coupled])) (by simp) (fun _ => inv.shown (by simp [hs]))
        (inv.settle_none (by simp [hs])) (inv.partial_clear (by simp [hs])) (by simp)
        (by simp [inv.passRetry_none, hs]) (inv.cause_none (by simp [hs]))
    · exact inv
  case passEndReport r fu =>
    split
    · rename_i hs
      have hs : s.cm.state = .discovering := hs
      simp only [CouplingMonitor.retry_eq]
      exact monitorInv_settled (State.setMonitor_cm _ _) (by simp [inv.run_of_ne, hs]) (by simp) (by simp)
        (fun _ => inv.closed (by simp [hs, CouplingState.coupled])) (by simp) (fun _ => inv.shown (by simp [hs]))
        (inv.settle_none (by simp [hs])) (inv.partial_clear (by simp [hs])) (by simp [inv.powerWait_none, hs])
        (by simp) (inv.cause_none (by simp [hs]))
    · rename_i hs
      have hs : s.cm.state = .serving := hs
      simp only [CouplingMonitor.retry_eq]
      exact monitorInv_settled (State.setMonitor_cm _ _) (by simp [inv.run_of_ne, hs]) (by simp [hs]) (by simp [hs])
        (fun _ => inv.closed (by simp [hs, CouplingState.coupled])) (by simp [hs])
        (fun _ => inv.shown (by simp [hs])) (inv.settle_none (by simp [hs])) (inv.partial_clear (by simp [hs]))
        (by simp [inv.powerWait_none, hs]) (by simp [hs]) (inv.cause_none (by simp [hs]))
    · exact inv.of_eq rfl rfl
  case passStartReport =>
    dsimp only; split
    · exact ⟨inv.hold, inv.closed, inv.opened, inv.shown, inv.settle, inv.powerWait, by simp, inv.half, inv.waits,
        inv.cause⟩
    · exact inv.of_eq rfl rfl
  case passRetryExpiry =>
    split
    · exact ⟨inv.hold, inv.closed, inv.opened, inv.shown, inv.settle, inv.powerWait, by simp, inv.half, inv.waits,
        inv.cause⟩
    · exact inv
  case stageBNotice =>
    split
    · rename_i hs; exact (inv.take _).enterFaulted hs _ (by simp)
    · exact inv.take _
  case lineHeldNotice =>
    split
    · rename_i hs
      exact (inv.take _).enterFaulted ((CouplingState.coupled_iff _).2 (.inr hs)) _ (by simp)
    · exact inv.take _
  case sampleNotice => exact inv.of_eq rfl rfl
  case stopNotice => exact inv.of_eq rfl rfl
  case captureNotice => dsimp only; split <;> exact inv.of_eq rfl rfl
  case sampleCompletion rl rd =>
    repeat' split
    · unfold State.captureSample; dsimp only; split
      · exact inv.of_eq (by simp) (by simp)
      · exact inv.of_eq rfl rfl
    · exact inv.of_eq rfl rfl
    · unfold State.compareSample; dsimp only; repeat' split
      · exact inv.of_eq (by simp) (by simp)
      · exact inv.of_eq (by simp) (by simp)
      · exact inv.of_eq rfl rfl
    · exact inv
  case feedsOffCommand => exact inv.of_eq (by simp) (by simp)
  case feedCouplingLost r => exact inv.of_eq (by simp [State.feedLoss]) (by simp [State.feedLoss])

theorem MonitorInv.exec {c : Instr} {t : State} (h : exec c s = .next t) (inv : MonitorInv s) : MonitorInv t := by
  cases hm : ofMonitorOrFeed c with
  | true => exact inv.exec_ofMonitorOrFeed hm h
  | false =>
    by_cases hr : ∃ f l, c = .hardReset f l
    · obtain ⟨f, l, rfl⟩ := hr
      obtain rfl := Host.Outcome.next.inj h
      exact MonitorInv.of_reset f l rfl rfl
    · by_cases hd : ∃ r, c = .directoryCouplingLost r
      · obtain ⟨r, rfl⟩ := hd
        obtain rfl := Host.Outcome.next.inj h
        have hk := (s.take (.directoryCouplingLost r)).directoryLoss_kept
        exact inv.of_eq (congrArg Kept.cm hk) (congrArg (fun k : Kept => k.port.run) hk)
      · push Not at hr hd
        exact passesKept_monitor.exec hm hr hd h inv

/-- Settles O55: the invariant reads no queue, and every command keeps it. -/
theorem stepKeepsMonitor : Obligations.StepKeepsMonitor := by
  intro s t inv h
  obtain rfl | ⟨c, rest, -, hc⟩ := step_cases h
  · exact inv
  · exact (inv.of_eq (t := { s with pending := rest }) rfl rfl).exec hc

end Sys2Proof.Machine
end

section
/-! PROOFS. Values brought into range (R32, R130, R158, R160). -/

namespace Sys2Proof.Machine

/-! ### One word -/

/-- A word brought into a range of 16 bits. -/
theorem clampWord_toNat {lo hi : Nat} (hhi : hi < 65536) (hlo : lo ≤ hi) (w : Word) :
    (clampWord lo hi w).toNat = max lo (min hi w.toNat) := by
  simp only [clampWord, clampNat, BitVec.toNat_ofNat]
  exact Nat.mod_eq_of_lt (by omega)

theorem clampWord_idem {lo hi : Nat} (hhi : hi < 65536) (hlo : lo ≤ hi) (w : Word) :
    clampWord lo hi (clampWord lo hi w) = clampWord lo hi w := by
  apply BitVec.eq_of_toNat_eq
  rw [clampWord_toNat hhi hlo, clampWord_toNat hhi hlo]
  omega

theorem tripBAbove_toNat {a b : Word} (ha : a.toNat ≤ 254) :
    (tripBAbove a b).toNat = max (a.toNat + 1) b.toNat := by
  unfold tripBAbove
  split
  · have : (a + 1).toNat = a.toNat + 1 := by
      rw [BitVec.toNat_add]; exact Nat.mod_eq_of_lt (by simp; omega)
    omega
  · omega

/-! ### The limits and counts of LIMITS (R32) -/

section
variable (l d m a b : Word)

theorem clampLimits_eq : clampLimits l d m a b = (clampWord 1 4095 l, clampWord 1 4095 d, clampWord 1 8190 m,
    clampWord 1 254 a, tripBAbove (clampWord 1 254 a) (clampWord 2 255 b)) := rfl

theorem clampedTripB_toNat : (tripBAbove (clampWord 1 254 a) (clampWord 2 255 b)).toNat =
    max ((clampWord 1 254 a).toNat + 1) (max 2 (min 255 b.toNat)) := by
  rw [tripBAbove_toNat, clampWord_toNat (lo := 2) (by omega) (by omega)]
  rw [clampWord_toNat (by omega) (by omega)]; omega

theorem clampedTripB_idem : tripBAbove (clampWord 1 254 (clampWord 1 254 a))
    (clampWord 2 255 (tripBAbove (clampWord 1 254 a) (clampWord 2 255 b))) =
    tripBAbove (clampWord 1 254 a) (clampWord 2 255 b) := by
  apply BitVec.eq_of_toNat_eq
  simp only [clampedTripB_toNat, clampWord_idem (lo := 1) (hi := 254) (by omega) (by omega)]
  rw [clampWord_toNat (by omega) (by omega)]; omega

/-- Whatever five words are clamped, the limits they give are in range. -/
theorem limitsOf_clamped_inRange : (limitsOf (clampWord 1 4095 l) (clampWord 1 4095 d) (clampWord 1 8190 m)
    (clampWord 1 254 a) (tripBAbove (clampWord 1 254 a) (clampWord 2 255 b))).inRange := by
  simp only [Limits.inRange, limitsOf, clampedTripB_toNat]
  repeat rw [clampWord_toNat (by omega) (by omega)]
  omega

theorem clampTimes_eq : clampTimes l d m a = (clampWord 10 10000 l, clampWord 1 15 d, clampWord 1 255 m,
    clampWord 0 255 a) := rfl

end

/-! ### All settings (R160) -/

theorem Params.clamped_eq (p : Params) : p.clamped = {
    lineRate := clampWord 0 2 p.lineRate, settleMs := clampWord 1 250 p.settleMs
    powerWaitMs := clampWord 1 2000 p.powerWaitMs, passRetryMs := clampWord 1 1000 p.passRetryMs
    rollMs := clampWord 10 10000 p.rollMs, strikeLimit := clampWord 1 15 p.strikeLimit
    keepRounds := clampWord 1 255 p.keepRounds, sweepRounds := clampWord 0 255 p.sweepRounds
    passAttempts := clampWord 1 8 p.passAttempts, callRetries := clampWord 0 3 p.callRetries
    requestWaitMs := clampWord 1 60000 p.requestWaitMs, ackMask := p.ackMask
    logicLimit := clampWord 1 4095 p.logicLimit, driveLimit := clampWord 1 4095 p.driveLimit
    sumLimit := clampWord 1 8190 p.sumLimit, tripA := clampWord 1 254 p.tripA
    tripB := tripBAbove (clampWord 1 254 p.tripA) (clampWord 2 255 p.tripB) } := rfl

theorem Params.clamped_idem (p : Params) : p.clamped.clamped = p.clamped := by
  simp only [Params.clamped_eq, clampedTripB_idem, Params.mk.injEq]
  refine ⟨?_, ?_, ?_, ?_, ?_, ?_, ?_, ?_, ?_, ?_, ?_, trivial, ?_, ?_, ?_, ?_, ?_⟩
  all_goals first | exact clampWord_idem (by omega) (by omega) _ | trivial

theorem ClassEntry.clamped_idem (c : ClassEntry) : c.clamped.clamped = c.clamped := by
  by_cases h : c.low.toNat ≤ c.high.toNat ∧ 1 ≤ c.low.toNat ∧ c.high.toNat ≤ 62
  · simp only [ClassEntry.clamped, if_pos h]
  · simp only [ClassEntry.clamped, if_neg h]; rfl

/-- Parameter words that are in range stay so with the four values of a RETIME clamped. -/
theorem Params.clamped_retime {p : Params} (h : p.clamped = p) (a b c d : Word) :
    Params.clamped { p with rollMs := clampWord 10 10000 a, strikeLimit := clampWord 1 15 b
                            keepRounds := clampWord 1 255 c, sweepRounds := clampWord 0 255 d } =
      { p with rollMs := clampWord 10 10000 a, strikeLimit := clampWord 1 15 b
               keepRounds := clampWord 1 255 c, sweepRounds := clampWord 0 255 d } := by
  rw [Params.clamped_eq] at h ⊢
  cases p
  simp only [Params.mk.injEq] at h ⊢
  obtain ⟨h1, h2, h3, h4, -, -, -, -, h9, h10, h11, -, h13, h14, h15, h16, h17⟩ := h
  refine ⟨h1, h2, h3, h4, ?_, ?_, ?_, ?_, h9, h10, h11, trivial, h13, h14, h15, h16, h17⟩
  all_goals exact clampWord_idem (by omega) (by omega) _

/-- Parameter words that are in range stay so with the five values of a LIMITS clamped. -/
theorem Params.clamped_limits {p : Params} (h : p.clamped = p) (a b c d e : Word) :
    Params.clamped { p with logicLimit := clampWord 1 4095 a, driveLimit := clampWord 1 4095 b
                            sumLimit := clampWord 1 8190 c, tripA := clampWord 1 254 d
                            tripB := tripBAbove (clampWord 1 254 d) (clampWord 2 255 e) } =
      { p with logicLimit := clampWord 1 4095 a, driveLimit := clampWord 1 4095 b
               sumLimit := clampWord 1 8190 c, tripA := clampWord 1 254 d
               tripB := tripBAbove (clampWord 1 254 d) (clampWord 2 255 e) } := by
  rw [Params.clamped_eq] at h ⊢
  cases p
  simp only [Params.mk.injEq, clampedTripB_idem] at h ⊢
  obtain ⟨h1, h2, h3, h4, h5, h6, h7, h8, h9, h10, h11, -, -, -, -, -, -⟩ := h
  refine ⟨h1, h2, h3, h4, h5, h6, h7, h8, h9, h10, h11, trivial, ?_, ?_, ?_, ?_, trivial⟩
  all_goals exact clampWord_idem (by omega) (by omega) _

end Sys2Proof.Machine
end

section
/-! PROOFS. The feed supervisor (chapter 2): what its commands answer, the statements on samples and notices, and its
invariant. -/

namespace Sys2Proof.Machine

variable {s : State}

/-! ### What the commands answer -/

theorem exec_sampleCompletion (rl rd : BitVec 12) (s : State) : exec (.sampleCompletion rl rd) s =
    .next (if s.feed.sampling then
      match s.feed.capture with
      | some c => s.captureSample c rl rd
      | none =>
        if s.feed.discard then { s with feed := { s.feed with discard := false } }
        else s.compareSample rl rd
    else s) := rfl

theorem exec_sampleCompletion_of_compared (rl rd : BitVec 12) (hs : s.feed.sampling = true)
    (hc : s.feed.capture = none) (hd : s.feed.discard = false) :
    exec (.sampleCompletion rl rd) s = .next (s.compareSample rl rd) := by
  simp [exec_sampleCompletion, hs, hc, hd]

theorem exec_sampleCompletion_of_capture (rl rd : BitVec 12) (hs : s.feed.sampling = true) {c : Capture}
    (hc : s.feed.capture = some c) :
    exec (.sampleCompletion rl rd) s = .next (s.captureSample c rl rd) := by
  simp [exec_sampleCompletion, hs, hc]

theorem exec_feedCouplingLost (r : LossReason) (s : State) :
    exec (.feedCouplingLost r) s = .next ((s.take (.feedCouplingLost r)).feedLoss r) := rfl

/-! ### When the record changes (R20) -/

theorem FeedSupervisor.recordFields_ne_iff (f g : FeedSupervisor) : f.recordFields ≠ g.recordFields ↔
    ¬(f.logicOn = g.logicOn ∧ f.driveOn = g.driveOn ∧ f.latch = g.latch ∧ f.pedHigh = g.pedHigh ∧
      f.pedLogic = g.pedLogic ∧ f.pedDrive = g.pedDrive ∧ f.trip = g.trip) := by
  simp only [FeedSupervisor.recordFields, ne_eq, Prod.mk.injEq]

/-- The port after an event that leaves the feed supervisor as `f`, with a stable change where a recorded field
changed. -/
theorem State.setFeed_eq (a : Alert) (f : FeedSupervisor) (s : State) : s.setFeed a f = { s with
    feed := f
    port := if f.recordFields = s.feed.recordFields then s.port
      else { s.port with recGen := s.port.recGen + 2, alert := s.port.alert ||| a.mask } } := by
  by_cases h : f.recordFields = s.feed.recordFields
  · rw [s.setFeed_same a f h, if_pos h]
  · rw [s.setFeed_changed a f h, if_neg h]

/-- The loss of LOGIC and DRIVE changes the record exactly where one of them was on, or the latch is cleared. -/
theorem FeedSupervisor.off_recordFields_iff (f : FeedSupervisor) (c : Option Capture) (r : Nat) (l : Bool) :
    FeedSupervisor.recordFields { f with logicOn := false, driveOn := false, capture := c, run := r, latch := l } =
      f.recordFields ↔ f.logicOn = false ∧ f.driveOn = false ∧ l = f.latch := by
  simp only [FeedSupervisor.recordFields, Prod.mk.injEq, and_true]
  constructor <;> rintro ⟨h1, h2, h3⟩ <;> exact ⟨h1.symm, h2.symm, h3⟩

/-! ### Compared samples (R24, R27 to R31) -/

theorem CauseSet.any_iff (c : CauseSet) : c.any = true ↔ c.logic = true ∨ c.drive = true ∨ c.sum = true := by
  simp [CauseSet.any, or_assoc]

theorem runAfter_eq (run : Nat) (c : CauseSet) : runAfter run c =
    if c.logic = true ∨ c.drive = true ∨ c.sum = true then min 255 (run + 1) else 0 := by
  simp only [runAfter, c.any_iff, addUpTo, Config.counterMax]

/-- A stage-A trip sets a latch that was clear. -/
theorem FeedSupervisor.tripA_recordFields_ne (f : FeedSupervisor) (r : Readings) (run : Nat) (h : f.latch = false) :
    (f.tripA r run).recordFields ≠ f.recordFields := by
  rw [FeedSupervisor.recordFields_ne_iff]
  rintro ⟨-, -, hl, -⟩
  exact Bool.false_ne_true (h.symm.trans hl.symm)

/-- A stage-B trip switches LOGIC off where it was on. -/
theorem FeedSupervisor.tripB_recordFields_ne (f : FeedSupervisor) (r : Readings) (run : Nat) (h : f.logicOn = true) :
    (f.tripB r run).recordFields ≠ f.recordFields := by
  rw [FeedSupervisor.recordFields_ne_iff]
  rintro ⟨hl, -⟩
  exact Bool.false_ne_true (hl.trans h)

/-- A sample meets a limit only where LOGIC is on: with both feeds off the compared sum is 0, and its limit is not. -/
theorem FeedInv.logicOn_of_causes (inv : FeedInv s) {r : Readings} (h : (s.feed.causes r).any = true) :
    s.feed.logicOn = true := by
  obtain ⟨-, -, -, -, hsum, -⟩ := inv.limits
  by_contra hl
  have hd : s.feed.driveOn = false := by
    rw [← Bool.not_eq_true]; exact fun hd => hl (inv.drive hd).1
  simp only [Bool.not_eq_true] at hl
  rw [CauseSet.any_iff] at h
  simp [FeedSupervisor.causes, FeedSupervisor.comparedSum, hl, hd] at h
  omega

/-- A run that reaches TRIP_B counts a sample that met a limit. -/
theorem FeedInv.logicOn_of_tripB (inv : FeedInv s) {r : Readings} {run : Nat}
    (h : s.feed.limits.tripB ≤ runAfter run (s.feed.causes r)) : s.feed.logicOn = true := by
  obtain ⟨-, -, -, -, -, -, -, -, htrip, -⟩ := inv.limits
  refine inv.logicOn_of_causes (r := r) ?_
  by_contra hc
  rw [runAfter, if_neg hc] at h
  omega

/-- Settles O13: the three branches of `State.compareSample`, with the record changed in each trip. -/
theorem comparedSample : Obligations.ComparedSample := by
  rintro s rl rd inv hs hc hd cl cd sum run hitL hitD hitS rfl rfl rfl rfl rfl rfl hrun
  have hrun' : run = runAfter s.feed.run (s.feed.causes (s.feed.readings rl rd)) := by
    rw [hrun, runAfter_eq]; rfl
  clear hrun
  subst hrun'
  rw [exec_sampleCompletion_of_compared rl rd hs hc hd]
  unfold State.compareSample
  dsimp only
  refine ⟨fun hb => ?_, fun hb ha hl => ?_, fun hb hn => ?_⟩
  · rw [if_pos hb, State.setFeed_changed _ _ _
      (s.feed.tripB_recordFields_ne _ _ (inv.logicOn_of_tripB hb))]
    rfl
  · rw [if_neg (by omega), if_pos ⟨ha, hl⟩, State.setFeed_changed _ _ _ (s.feed.tripA_recordFields_ne _ _ hl)]
    rfl
  · have hna : ¬(s.feed.limits.tripA ≤ runAfter s.feed.run (s.feed.causes (s.feed.readings rl rd)) ∧
        s.feed.latch = false) := by
      rintro ⟨h1, h2⟩
      rcases hn with hn | hn
      · omega
      · exact Bool.false_ne_true (h2.symm.trans hn)
    rw [if_neg (by omega), if_neg hna]
    rfl

/-! ### Pedestal capture (R25) -/

/-- The state after a capture whose raw readings sum to `l` and `d`, with LOGIC off before it. -/
theorem State.captureSample_last {c : Capture} {rl rd : BitVec 12} (h : c.taken = 7) (hl : s.feed.logicOn = false) :
    s.captureSample c rl rd = { s with
      feed := { s.feed with
        pedLogic := min 255 (pedestalMean (c.sumLogic + rl.toNat))
        pedDrive := min 255 (pedestalMean (c.sumDrive + rd.toNat))
        pedHigh := decide (255 < pedestalMean (c.sumLogic + rl.toNat) ∨ 255 < pedestalMean (c.sumDrive + rd.toNat))
        logicOn := true, capture := none, discard := true }
      port := { s.port with recGen := s.port.recGen + 2, alert := s.port.alert ||| 1#7 }
      given := s.given ++ [.logicOnReport] } := by
  have hchange : (s.feed.captured (c.add rl rd)).recordFields ≠ s.feed.recordFields := by
    rw [FeedSupervisor.recordFields_ne_iff]
    rintro ⟨hon, -⟩
    exact Bool.false_ne_true (hl.symm.trans hon.symm)
  simp only [State.captureSample, Capture.add, Config.captureSamples, h, State.give]
  rw [if_pos (by omega)]
  simp only [Capture.add, h] at hchange
  rw [State.setFeed_changed _ _ _ hchange]
  simp only [FeedSupervisor.captured, Config.pedestalMax, hl, Bool.not_false]
  rfl

theorem State.captureSample_more {c : Capture} {rl rd : BitVec 12} (h : c.taken < 7) :
    s.captureSample c rl rd = { s with feed := { s.feed with capture := some (c.add rl rd), discard := false } } := by
  simp only [State.captureSample, Config.captureSamples]
  exact if_neg (by simp only [Capture.add]; omega)

theorem run_succ_of_step {M : Host.Core} (k : Nat) {s t : M.State} (h : M.step s = .next t) :
    M.run (k + 1) s = M.run k t := by
  rw [Host.Core.run, h]

/-- The samples still to take complete the capture, one step each: induction on them, the sums taken so far general. -/
theorem run_capture (xs : List (BitVec 12 × BitVec 12)) (c : Capture) (s : State) (rest : List Instr)
    (hn : c.taken + xs.length = 8) (hx : xs ≠ []) (hs : s.feed.sampling = true) (hc : s.feed.capture = some c)
    (hl : s.feed.logicOn = false) :
    Host.Core.run Sys2Proof.core xs.length
        { s with pending := xs.map (fun x => Instr.sampleCompletion x.1 x.2) ++ rest } = .next { s with
      feed := { s.feed with
        pedLogic := min 255 (pedestalMean (c.sumLogic + (xs.map fun x => x.1.toNat).sum))
        pedDrive := min 255 (pedestalMean (c.sumDrive + (xs.map fun x => x.2.toNat).sum))
        pedHigh := decide (255 < pedestalMean (c.sumLogic + (xs.map fun x => x.1.toNat).sum) ∨
          255 < pedestalMean (c.sumDrive + (xs.map fun x => x.2.toNat).sum))
        logicOn := true, capture := none, discard := true }
      port := { s.port with recGen := s.port.recGen + 2, alert := s.port.alert ||| 1#7 }
      given := s.given ++ [.logicOnReport]
      pending := rest } := by
  induction xs generalizing c s with
  | nil => exact absurd rfl hx
  | cons x xs ih =>
    have hstep : Sys2Proof.core.step { s with pending := (x :: xs).map (fun x => Instr.sampleCompletion x.1 x.2) ++ rest } =
        .next (State.captureSample c x.1 x.2
          { s with pending := xs.map (fun x => Instr.sampleCompletion x.1 x.2) ++ rest }) :=
      exec_sampleCompletion_of_capture (s := { s with pending := xs.map _ ++ rest }) x.1 x.2 hs hc
    refine (run_succ_of_step (M := Sys2Proof.core) xs.length hstep).trans ?_
    simp only [List.length_cons] at hn
    cases xs with
    | nil =>
      have hlast := State.captureSample_last (s := { s with pending := rest }) (c := c) (rl := x.1) (rd := x.2)
        (by simpa using hn) hl
      refine (congrArg Host.Outcome.next hlast).trans ?_
      simp only [List.map_cons, List.map_nil, List.sum_cons, List.sum_nil, Nat.add_zero]
      rfl
    | cons y ys =>
      simp only [List.length_cons] at hn
      have hmore := State.captureSample_more (c := c) (rl := x.1) (rd := x.2)
        (s := { s with pending := (y :: ys).map (fun x => Instr.sampleCompletion x.1 x.2) ++ rest }) (by omega)
      refine (congrArg _ hmore).trans ((ih (c.add x.1 x.2) { s with feed := { s.feed with capture := some (c.add x.1 x.2), discard := false } }
        ?_ (by simp) hs rfl hl).trans ?_)
      · simp only [Capture.add, List.length_cons]; omega
      · simp only [Capture.add, List.map_cons, List.sum_cons, Nat.add_assoc]

/-- Settles O14: eight samples from a fresh capture by `run_capture`. -/
theorem pedestalCapture : Obligations.PedestalCapture := by
  rintro s xs l d hxs hs hc hl rfl rfl
  have hmin : ∀ m : Nat, min 255 m = if 255 < m then 255 else m := fun m => by split <;> omega
  have h := run_capture xs ⟨0, 0, 0⟩ s s.pending (by simp [hxs]) (by rintro rfl; cases hxs) hs hc hl
  simpa only [hxs, Nat.zero_add, hmin, pedestalMean] using h

/-! ### Notices (R20 to R26) -/

/-- Settles O15: the notices by their equations, and the two that switch the feeds off by `State.setFeed_eq`. -/
theorem feedNotices : Obligations.FeedNotices := by
  refine ⟨fun s => ⟨rfl, rfl, fun h => ?_, fun h => ?_⟩, fun s rl rd => ⟨fun hs hc hd => ?_, fun hs => ?_⟩,
    fun s => ⟨?_, fun r => ?_⟩⟩
  · exact congrArg _ (if_pos h)
  · exact congrArg _ (if_neg h)
  · simp [exec_sampleCompletion, hs, hc, hd]
  · simp [exec_sampleCompletion, hs]
  · have hiff := s.feed.off_recordFields_iff none s.feed.run s.feed.latch
    refine ⟨_, congrArg _ (State.setFeed_eq _ _ _), fun h1 h2 => ?_, fun h => ?_⟩
    · exact if_pos (hiff.2 ⟨h1, h2, rfl⟩)
    · refine if_neg fun he => ?_
      obtain ⟨h1, h2, -⟩ := hiff.1 he
      simp [h1, h2] at h
  · have hlatch : (if r = .decoupled then false else s.feed.latch) = (decide (r ≠ .decoupled) && s.feed.latch) := by
      cases r <;> simp
    have hiff := s.feed.off_recordFields_iff none 0 (decide (r ≠ .decoupled) && s.feed.latch)
    rw [exec_feedCouplingLost, State.feedLoss, State.take_feed, hlatch]
    refine ⟨_, congrArg _ (State.setFeed_eq _ _ _), fun h1 h2 h3 => ?_, fun h => ?_⟩
    · refine if_pos (hiff.2 ⟨h1, h2, ?_⟩)
      rcases h3 with h3 | h3 <;> simp [h3]
    · refine if_neg fun he => ?_
      obtain ⟨h1, h2, h3⟩ := hiff.1 he
      rcases h with h | h | ⟨h, rfl⟩
      · simp [h1] at h
      · simp [h2] at h
      · simp [h] at h3

end Sys2Proof.Machine
end

section
/-! PROOFS. Every step keeps the feed supervisor's invariant (R20 to R34). -/

namespace Sys2Proof.Machine

variable {s : State}

namespace FeedInv

/-- The invariant reads the feed supervisor alone. -/
theorem of_feed {t : State} (inv : FeedInv s) (h : t.feed = s.feed) : FeedInv t := by
  obtain ⟨h1, h2, h3, h4, h5, h6, h7⟩ := inv
  rw [← h] at h1 h2 h3 h4 h5 h6 h7
  exact ⟨h1, h2, h3, h4, h5, h6, h7⟩

variable (inv : FeedInv s)
include inv

omit inv in
theorem run_le {r : Nat} {c : CauseSet} : runAfter r c ≤ 255 := by
  rw [runAfter_eq]; split <;> omega

/-- Both feeds off, a capture abandoned or not, with the latch as it was or clear. -/
theorem off {t : State} {c : Option Capture} {r : Nat} {l : Bool} (hc : c = none ∨ c = s.feed.capture) (hr : r ≤ 255)
    (hl : l = true → s.feed.latch = true) (h : t.feed = { s.feed with
      logicOn := false, driveOn := false, capture := c, run := r, latch := l }) : FeedInv t := by
  refine ⟨?_, ?_, ?_, ?_, ?_, ?_, ?_⟩ <;> rw [h]
  · simp
  · exact inv.pedestals
  · exact hr
  · rcases hc with rfl | rfl
    · simp
    · exact inv.capture
  · exact fun hs => inv.tripped (hl hs)
  · exact fun hs => inv.frozen (hl hs)
  · exact inv.limits

theorem compareSample (rl rd : BitVec 12) : FeedInv (s.compareSample rl rd) := by
  have hrun := run_le (r := s.feed.run) (c := s.feed.causes (s.feed.readings rl rd))
  unfold State.compareSample; dsimp only
  split
  · refine ⟨?_, ?_, ?_, ?_, ?_, ?_, ?_⟩ <;> simp only [State.give_feed, State.setFeed_feed, FeedSupervisor.tripB]
    · simp
    · exact inv.pedestals
    · exact hrun
    · exact inv.capture
    · simp [FeedSupervisor.tripRecord]
    · exact fun _ => ⟨rfl, rfl, rfl, rfl⟩
    · exact inv.limits
  · split
    · refine ⟨?_, ?_, ?_, ?_, ?_, ?_, ?_⟩ <;> simp only [State.setFeed_feed, FeedSupervisor.tripA]
      · simp
      · exact inv.pedestals
      · exact hrun
      · exact inv.capture
      · simp [FeedSupervisor.tripRecord]
      · exact fun _ => ⟨rfl, rfl, rfl, rfl⟩
      · exact inv.limits
    · refine ⟨inv.drive, inv.pedestals, hrun, inv.capture, inv.tripped, fun hl => ?_, inv.limits⟩
      simp only [FeedSupervisor.compared] at hl ⊢
      rw [if_pos hl]
      exact inv.frozen hl

theorem captureSample {c : Capture} (rl rd : BitVec 12) : FeedInv (s.captureSample c rl rd) := by
  unfold State.captureSample; dsimp only
  split
  · refine ⟨?_, ?_, ?_, ?_, ?_, ?_, ?_⟩ <;> simp only [State.give_feed, State.setFeed_feed, FeedSupervisor.captured]
    · exact fun hd => ⟨trivial, (inv.drive hd).2⟩
    · exact ⟨Nat.min_le_left _ _, Nat.min_le_left _ _⟩
    · exact inv.run
    · simp
    · exact inv.tripped
    · exact inv.frozen
    · exact inv.limits
  · rename_i hn
    refine ⟨inv.drive, inv.pedestals, inv.run, fun c' hc => ?_, inv.tripped, inv.frozen, inv.limits⟩
    obtain rfl := Option.some.inj hc
    exact Nat.not_le.1 hn

theorem feedLoss (r : LossReason) : FeedInv (s.feedLoss r) :=
  inv.off (.inl rfl) (Nat.zero_le _) (by split <;> simp) (State.setFeed_feed ..)

theorem doDrive (a : Word) : FeedInv (s.doDrive a).1 := by
  unfold State.doDrive
  split
  · refine ⟨?_, ?_, ?_, ?_, ?_, ?_, ?_⟩ <;> simp only [State.setFeed_feed]
    · simp
    · exact inv.pedestals
    · exact inv.run
    · exact inv.capture
    · exact inv.tripped
    · exact inv.frozen
    · exact inv.limits
  · split
    · rename_i h
      obtain ⟨-, hl, ht⟩ := h
      split
      · exact inv
      · refine ⟨?_, ?_, ?_, ?_, ?_, ?_, ?_⟩ <;> simp only [State.setFeed_feed]
        · exact fun _ => ⟨hl, ht⟩
        · exact inv.pedestals
        · exact inv.run
        · exact inv.capture
        · exact inv.tripped
        · exact inv.frozen
        · exact inv.limits
    · exact inv

theorem rearmed {t : State} (h : t.feed = s.feed.rearmed) : FeedInv t := by
  refine ⟨?_, ?_, ?_, ?_, ?_, ?_, ?_⟩ <;> simp only [h, FeedSupervisor.rearmed]
  · exact fun hd => ⟨(inv.drive hd).1, trivial⟩
  · exact inv.pedestals
  · omega
  · exact inv.capture
  · simp
  · simp
  · exact inv.limits

theorem withLimits {t : State} {l : Limits} (hl : l.inRange) (h : t.feed = { s.feed with limits := l }) :
    FeedInv t := by
  refine ⟨?_, ?_, ?_, ?_, ?_, ?_, ?_⟩ <;> rw [h]
  exacts [inv.drive, inv.pedestals, inv.run, inv.capture, inv.tripped, inv.frozen, hl]

end FeedInv

theorem State.doLimits_eq (a b c d e : Word) (s : State) : (s.doLimits a b c d e).1 = { s with
    feed := { s.feed with
      limits := limitsOf (clampWord 1 4095 a) (clampWord 1 4095 b) (clampWord 1 8190 c) (clampWord 1 254 d)
        (tripBAbove (clampWord 1 254 d) (clampWord 2 255 e)) }
    port := { s.port with
      params := { s.port.params with
        logicLimit := clampWord 1 4095 a, driveLimit := clampWord 1 4095 b, sumLimit := clampWord 1 8190 c
        tripA := clampWord 1 254 d, tripB := tripBAbove (clampWord 1 254 d) (clampWord 2 255 e) }
      alert := if (clampWord 1 4095 a, clampWord 1 4095 b, clampWord 1 8190 c, clampWord 1 254 d,
          tripBAbove (clampWord 1 254 d) (clampWord 2 255 e)) = (a, b, c, d, e) then s.port.alert
        else s.port.alert ||| 64#7 } } := by
  by_cases hc : (clampWord 1 4095 a, clampWord 1 4095 b, clampWord 1 8190 c, clampWord 1 254 d,
      tripBAbove (clampWord 1 254 d) (clampWord 2 255 e)) = (a, b, c, d, e)
  · simp only [State.doLimits, clampLimits_eq, eq_true hc, if_true]
  · simp only [State.doLimits, clampLimits_eq, eq_false hc, if_false, State.raise_eq]
    rfl

theorem State.doRetime_eq (a b c d : Word) (s : State) : (s.doRetime a b c d).1 = { s with
    roll := { s.roll with
      rollMs := (clampWord 10 10000 a).toNat, strikeLimit := (clampWord 1 15 b).toNat
      keepRounds := (clampWord 1 255 c).toNat }
    walker := s.walker.setSweepRounds (clampWord 0 255 d).toNat
    dir := { s.dir with
      entries := Vector.ofFn fun n => (s.entry n).lowered (clampWord 1 15 b).toNat (clampWord 1 255 c).toNat
      offer := s.dir.offer.map (Offer.lowered (clampWord 1 255 c).toNat) }
    port := { s.port with
      params := { s.port.params with
        rollMs := clampWord 10 10000 a, strikeLimit := clampWord 1 15 b, keepRounds := clampWord 1 255 c
        sweepRounds := clampWord 0 255 d }
      alert := if (clampWord 10 10000 a, clampWord 1 15 b, clampWord 1 255 c, clampWord 0 255 d) = (a, b, c, d)
        then s.port.alert else s.port.alert ||| 64#7 } } := by
  by_cases hc : (clampWord 10 10000 a, clampWord 1 15 b, clampWord 1 255 c, clampWord 0 255 d) = (a, b, c, d)
  · simp only [State.doRetime, clampTimes_eq, State.lowerLive, eq_true hc, if_true, State.entry_eq]
  · simp only [State.doRetime, clampTimes_eq, State.lowerLive, eq_false hc, if_false, State.raise_eq, State.entry_eq]
    rfl

theorem State.doLimits_feed (a b c d e : Word) (s : State) : (s.doLimits a b c d e).1.feed = { s.feed with
    limits := limitsOf (clampWord 1 4095 a) (clampWord 1 4095 b) (clampWord 1 8190 c) (clampWord 1 254 d)
      (tripBAbove (clampWord 1 254 d) (clampWord 2 255 e)) } := by
  rw [State.doLimits_eq]

theorem State.monitorRearm_feed (s : State) : s.monitorRearm.feed = s.feed := by
  unfold State.monitorRearm; split <;> simp

theorem State.monitorEntry_feed (s : State) : s.monitorEntry.feed = s.feed := by
  unfold State.monitorEntry; dsimp only; split <;> simp

theorem State.enterRun_feed (s : State) : s.enterRun.feed = { s.feed with
    limits := limitsOf (clampWord 1 4095 s.port.params.logicLimit) (clampWord 1 4095 s.port.params.driveLimit)
      (clampWord 1 8190 s.port.params.sumLimit) (clampWord 1 254 s.port.params.tripA)
      (tripBAbove (clampWord 1 254 s.port.params.tripA) (clampWord 2 255 s.port.params.tripB)) } := by
  obtain ⟨u, hu, he⟩ := s.enterRun_kept
  rw [he, State.monitorEntry_feed, show u.feed = _ from congrArg Kept.feed hu, State.clampSettings_eq]
  rfl

theorem passesKept_feed : PassesKept FeedInv where
  kept h inv := inv.of_feed (congrArg Kept.feed h)
  retime a b c d s inv := inv.of_feed (by unfold State.doRetime; dsimp only [State.lowerLive]; split <;> rfl)
  limits a b c d e s inv := inv.withLimits (limitsOf_clamped_inRange a b c d e) (s.doLimits_feed a b c d e)
  drive a _ inv := inv.doDrive a
  rearm s inv := by
    unfold State.doRearm; dsimp only
    split
    · refine inv.rearmed ((State.setFeed_feed ..).trans ?_)
      split
      · rw [State.monitorRearm_feed]
      · rfl
    · exact inv
  seen _ _ inv := inv.of_feed rfl
  alertMask _ _ inv := inv.of_feed rfl
  params _ _ _ inv := inv.of_feed rfl
  classMap _ _ _ inv := inv.of_feed rfl
  enterRun s _ inv := inv.withLimits (limitsOf_clamped_inRange ..) s.enterRun_feed
  softHold s _ inv := by
    unfold State.softHold; dsimp only
    split
    · exact inv.of_feed rfl
    · exact (FeedInv.feedLoss (s := { s with port := { s.port with run := false } }) (inv.of_feed rfl) .hold).of_feed
        (State.setMonitor_feed ..)

theorem FeedInv.exec_ofMonitorOrFeed {c : Instr} {t : State} (hm : ofMonitorOrFeed c = true)
    (h : exec c s = .next t) (inv : FeedInv s) : FeedInv t := by
  cases c <;> try exact absurd hm Bool.false_ne_true
  all_goals obtain rfl := Host.Outcome.next.inj h
  case contactEdge x closed =>
    refine inv.of_feed ?_
    split
    · rfl
    · unfold State.edge State.decouple; split <;> simp
  case settleExpiry =>
    refine inv.of_feed ?_
    split
    · unfold State.settled; dsimp only; split <;> simp
    · rfl
  case passEndReport r fu => refine inv.of_feed ?_; split <;> simp
  case stageBNotice => refine inv.of_feed ?_; split <;> simp [State.enterFaulted]
  case lineHeldNotice => refine inv.of_feed ?_; split <;> simp [State.enterFaulted]
  case sampleNotice => exact ⟨inv.drive, inv.pedestals, inv.run, inv.capture, inv.tripped, inv.frozen, inv.limits⟩
  case stopNotice => exact ⟨inv.drive, inv.pedestals, inv.run, by simp, inv.tripped, inv.frozen, inv.limits⟩
  case captureNotice =>
    dsimp only; split
    · exact ⟨inv.drive, inv.pedestals, inv.run, by rintro c ⟨⟩; decide, inv.tripped, inv.frozen, inv.limits⟩
    · exact inv.of_feed rfl
  case sampleCompletion rl rd =>
    repeat' split
    · exact inv.captureSample rl rd
    · exact ⟨inv.drive, inv.pedestals, inv.run, inv.capture, inv.tripped, inv.frozen, inv.limits⟩
    · exact inv.compareSample rl rd
    · exact inv
  case feedsOffCommand => exact inv.off (.inl rfl) inv.run id (State.setFeed_feed ..)
  case feedCouplingLost r => exact (inv.of_feed (t := s.take _) rfl).feedLoss r
  case powerWaitExpiry => refine inv.of_feed ?_; split <;> simp
  case logicOnReport => refine inv.of_feed ?_; dsimp only; split <;> rfl
  case passStartReport => refine inv.of_feed ?_; dsimp only; split <;> rfl
  case passRetryExpiry => refine inv.of_feed ?_; split <;> rfl

theorem FeedInv.exec {c : Instr} {t : State} (h : exec c s = .next t) (inv : FeedInv s) : FeedInv t := by
  cases hm : ofMonitorOrFeed c with
  | true => exact inv.exec_ofMonitorOrFeed hm h
  | false =>
    by_cases hr : ∃ f l, c = .hardReset f l
    · obtain ⟨f, l, rfl⟩ := hr
      obtain rfl := Host.Outcome.next.inj h
      constructor <;> simp [State.reset, Limits.inRange]
    · by_cases hd : ∃ r, c = .directoryCouplingLost r
      · obtain ⟨r, rfl⟩ := hd
        obtain rfl := Host.Outcome.next.inj h
        exact inv.of_feed (congrArg Kept.feed (s.take (.directoryCouplingLost r)).directoryLoss_kept)
      · push Not at hr hd
        exact passesKept_feed.exec hm hr hd h inv

/-- Settles O56: the invariant reads no queue, and every command keeps it. -/
theorem stepKeepsFeeds : Obligations.StepKeepsFeeds := by
  intro s t inv h
  obtain rfl | ⟨c, rest, -, hc⟩ := step_cases h
  · exact inv
  · exact (inv.of_feed (t := { s with pending := rest }) rfl).exec hc

end Sys2Proof.Machine
end

section
/-! PROOFS. The hard reset (R157), and every step keeps the settings (R158, R160, R161). -/

namespace Sys2Proof.Machine

/-! ### The settings and the values in force -/

/-- The settings and the values in force, gathered. -/
structure Settings where
  params : Params
  classMap : Vector ClassEntry 64
  run : Bool
  settleMs : Nat
  powerWaitMs : Nat
  passRetryMs : Nat
  limits : Limits
  rate : LineRate
  passAttempts : Nat
  sweepRounds : Nat
  rollMs : Nat
  strikeLimit : Nat
  keepRounds : Nat
  waitMs : Nat
  ackMask : AckMask
  callRetries : Nat

/-- The settings are a piece of the kept part, so the commands of the line side keep them. -/
def Kept.settings (k : Kept) : Settings where
  params := k.port.params
  classMap := k.port.classMap
  run := k.port.run
  settleMs := k.cm.settleMs
  powerWaitMs := k.cm.powerWaitMs
  passRetryMs := k.cm.passRetryMs
  limits := k.feed.limits
  rate := k.rate
  passAttempts := k.passAttempts
  sweepRounds := k.sweepRounds
  rollMs := k.rollMs
  strikeLimit := k.strikeLimit
  keepRounds := k.keepRounds
  waitMs := k.waitMs
  ackMask := k.ackMask
  callRetries := k.callRetries

/-- Every value in force is the one its word shows. -/
def Settings.inForce (x : Settings) : Prop :=
  x.settleMs = x.params.settleMs.toNat ∧ x.powerWaitMs = x.params.powerWaitMs.toNat ∧
  x.passRetryMs = x.params.passRetryMs.toNat ∧
  x.limits = limitsOf x.params.logicLimit x.params.driveLimit x.params.sumLimit x.params.tripA x.params.tripB ∧
  x.rate = lineRateOf x.params.lineRate ∧ x.passAttempts = x.params.passAttempts.toNat ∧
  x.sweepRounds = x.params.sweepRounds.toNat ∧ x.rollMs = x.params.rollMs.toNat ∧
  x.strikeLimit = x.params.strikeLimit.toNat ∧ x.keepRounds = x.params.keepRounds.toNat ∧
  x.waitMs = x.params.requestWaitMs.toNat ∧ x.ackMask = ackMaskOf x.params.ackMask ∧
  x.callRetries = x.params.callRetries.toNat

theorem State.takeValues_eq_iff (s : State) : s.takeValues = s ↔ s.kept.settings.inForce := by
  rcases s with ⟨⟨_, _, _, _, _, _, _, _, _, _, _, _, _⟩, ⟨_, _, _, _, _, _, _, _, _, _, _, _, _⟩,
    ⟨_, _, _, _, _, _, _, _, _⟩, ⟨_, _, _, _, _, _, _, _, _, _, _, _, _, _⟩, ⟨_, _, _, _⟩,
    ⟨_, _, _, _, _, _, _, _, _⟩, ⟨_, _, _, _⟩, ⟨_, _, _, _, _, _, _⟩, _, _, _⟩
  simp only [State.takeValues, Settings.inForce, State.kept, Kept.settings, State.mk.injEq,
    CouplingMonitor.mk.injEq, FeedSupervisor.mk.injEq, LineUnit.mk.injEq, Walker.mk.injEq, Directory.mk.injEq,
    RollCaller.mk.injEq, RequestUnit.mk.injEq, true_and, and_true, and_assoc]
  constructor
  · rintro ⟨h1, h2, h3, h4, h5, h6, h7, h8, h9, h10, h11, h12, h13⟩
    exact ⟨h1.symm, h2.symm, h3.symm, h4.symm, h5.symm, h6.symm, h7.symm, h9.symm, h10.symm, h11.symm, h12.symm,
      h8.symm, h13.symm⟩
  · rintro ⟨h1, h2, h3, h4, h5, h6, h7, h9, h10, h11, h12, h8, h13⟩
    exact ⟨h1.symm, h2.symm, h3.symm, h4.symm, h5.symm, h6.symm, h7.symm, h8.symm, h9.symm, h10.symm, h11.symm,
      h12.symm, h13.symm⟩

/-- `SettingsInv` as it reads the settings. -/
def Settings.sound (x : Settings) : Prop :=
  x.run = true → x.params.clamped = x.params ∧ x.classMap.map ClassEntry.clamped = x.classMap ∧ x.inForce

theorem settingsInv_iff (s : State) : SettingsInv s ↔ s.kept.settings.sound := by
  constructor
  · exact fun inv hr => ⟨inv.params hr, inv.classMap hr, s.takeValues_eq_iff.1 (inv.inForce hr)⟩
  · exact fun h => ⟨fun hr => (h hr).1, fun hr => (h hr).2.1, fun hr => s.takeValues_eq_iff.2 (h hr).2.2⟩

/-- `RangeInv` as it reads the settings. -/
def Settings.inRange (x : Settings) : Prop :=
  (1 ≤ x.settleMs ∧ x.settleMs ≤ 250) ∧ (1 ≤ x.powerWaitMs ∧ x.powerWaitMs ≤ 2000) ∧
  (1 ≤ x.passRetryMs ∧ x.passRetryMs ≤ 1000) ∧ (10 ≤ x.rollMs ∧ x.rollMs ≤ 10000) ∧
  (1 ≤ x.strikeLimit ∧ x.strikeLimit ≤ 15) ∧ (1 ≤ x.keepRounds ∧ x.keepRounds ≤ 255) ∧ x.sweepRounds ≤ 255 ∧
  (1 ≤ x.passAttempts ∧ x.passAttempts ≤ 8) ∧ x.callRetries ≤ 3 ∧ (1 ≤ x.waitMs ∧ x.waitMs ≤ 60000)

theorem rangeInv_iff (s : State) : RangeInv s ↔ s.kept.settings.inRange := by
  constructor
  · rintro ⟨h1, h2, h3, h4, h5, h6, h7, h8, h9, h10⟩
    exact ⟨h1, h2, h3, h4, h5, h6, h7, h8, h9, h10⟩
  · rintro ⟨h1, h2, h3, h4, h5, h6, h7, h8, h9, h10⟩
    exact ⟨h1, h2, h3, h4, h5, h6, h7, h8, h9, h10⟩

/-! ### What the operations make of the settings -/

theorem State.setMonitor_settings (c : CouplingMonitor) (s : State) (h1 : c.settleMs = s.cm.settleMs)
    (h2 : c.powerWaitMs = s.cm.powerWaitMs) (h3 : c.passRetryMs = s.cm.passRetryMs) :
    (s.setMonitor c).kept.settings = s.kept.settings := by
  have h : ({ s with cm := c } : State).kept.settings = s.kept.settings := by
    simp only [Kept.settings, State.kept, h1, h2, h3]
  unfold State.setMonitor; dsimp only; split <;> exact h

theorem State.setFeed_settings (a : Alert) (f : FeedSupervisor) (s : State) (h : f.limits = s.feed.limits) :
    (s.setFeed a f).kept.settings = s.kept.settings := by
  have h : ({ s with feed := f } : State).kept.settings = s.kept.settings := by
    simp only [Kept.settings, State.kept, h]
  unfold State.setFeed; dsimp only; split <;> exact h

theorem CouplingMonitor.record_times (x : Contact) (closed : Bool) (c : CouplingMonitor) :
    (c.record x closed).settleMs = c.settleMs ∧ (c.record x closed).powerWaitMs = c.powerWaitMs ∧
    (c.record x closed).passRetryMs = c.passRetryMs := by
  cases x <;> exact ⟨rfl, rfl, rfl⟩

theorem State.edge_settings (x : Contact) (closed : Bool) (s : State) :
    (s.edge x closed).kept.settings = s.kept.settings := by
  obtain ⟨h1, h2, h3⟩ := s.cm.record_times x closed
  unfold State.edge
  split
  case h_1 => cases x <;> rfl
  case h_2 => exact s.setMonitor_settings _ h1 h2 h3
  case h_3 => exact s.setMonitor_settings _ h1 h2 h3
  case h_7 => exact s.setMonitor_settings _ h1 h2 h3
  all_goals exact s.setMonitor_settings _ h1 h2 h3

theorem State.settled_settings (s : State) : s.settled.kept.settings = s.kept.settings := by
  unfold State.settled
  split <;> exact s.setMonitor_settings _ rfl rfl rfl

theorem State.monitorEntry_settings (s : State) : s.monitorEntry.kept.settings = s.kept.settings := by
  unfold State.monitorEntry; dsimp only
  split <;> exact s.setMonitor_settings _ rfl rfl rfl

theorem State.monitorRearm_settings (s : State) : s.monitorRearm.kept.settings = s.kept.settings := by
  unfold State.monitorRearm
  split <;> exact s.setMonitor_settings _ rfl rfl rfl

theorem State.doDrive_settings (a : Word) (s : State) : (s.doDrive a).1.kept.settings = s.kept.settings := by
  unfold State.doDrive; repeat' split
  · exact s.setFeed_settings _ _ rfl
  · rfl
  · exact s.setFeed_settings _ _ rfl
  · rfl

theorem State.doRearm_settings (s : State) : s.doRearm.1.kept.settings = s.kept.settings := by
  unfold State.doRearm; dsimp only
  split
  · refine (State.setFeed_settings _ _ _ (by rfl)).trans ?_
    split
    · exact s.monitorRearm_settings
    · rfl
  · rfl

theorem State.softHold_settings (s : State) :
    s.softHold.kept.settings = { s.kept.settings with run := false } := by
  unfold State.softHold; dsimp only
  split
  · rfl
  · refine (State.setMonitor_settings _ _ (by rfl) (by rfl) (by rfl)).trans ?_
    exact State.setFeed_settings _ _ _ (by rfl)

/-- The settings in RUN that words give, every value in force as its word shows. -/
def Params.settings (m : Vector ClassEntry 64) (p : Params) : Settings where
  params := p
  classMap := m
  run := true
  settleMs := p.settleMs.toNat
  powerWaitMs := p.powerWaitMs.toNat
  passRetryMs := p.passRetryMs.toNat
  limits := limitsOf p.logicLimit p.driveLimit p.sumLimit p.tripA p.tripB
  rate := lineRateOf p.lineRate
  passAttempts := p.passAttempts.toNat
  sweepRounds := p.sweepRounds.toNat
  rollMs := p.rollMs.toNat
  strikeLimit := p.strikeLimit.toNat
  keepRounds := p.keepRounds.toNat
  waitMs := p.requestWaitMs.toNat
  ackMask := ackMaskOf p.ackMask
  callRetries := p.callRetries.toNat

theorem State.enterRun_settings (s : State) : s.enterRun.kept.settings =
    s.port.params.clamped.settings (s.port.classMap.map ClassEntry.clamped) := by
  obtain ⟨u, hu, he⟩ := s.enterRun_kept
  rw [he, State.monitorEntry_settings, hu, State.clampSettings_eq]
  rfl

/-- The monitor's and the feed supervisor's commands touch no setting. -/
theorem exec_settings {c : Instr} (hc : ofMonitorOrFeed c = true) {s t : State} (h : exec c s = .next t) :
    t.kept.settings = s.kept.settings := by
  cases c <;> try exact absurd hc Bool.false_ne_true
  all_goals obtain rfl := Host.Outcome.next.inj h
  case contactEdge x closed => split <;> first | rfl | exact s.edge_settings x closed
  case settleExpiry => split <;> first | rfl | exact s.settled_settings
  case logicOnReport => dsimp only; split <;> rfl
  case powerWaitExpiry => split <;> first | rfl | exact s.setMonitor_settings _ rfl rfl rfl
  case passEndReport r fu =>
    split
    · rw [CouplingMonitor.retry_eq]; exact State.setMonitor_settings _ _ rfl rfl rfl
    · rw [CouplingMonitor.retry_eq]; exact State.setMonitor_settings _ _ rfl rfl rfl
    · rfl
  case passStartReport => dsimp only; split <;> rfl
  case passRetryExpiry => split <;> rfl
  case stageBNotice => split <;> first | rfl | exact State.setMonitor_settings _ _ rfl rfl rfl
  case lineHeldNotice => split <;> first | rfl | exact State.setMonitor_settings _ _ rfl rfl rfl
  case sampleNotice => rfl
  case stopNotice => rfl
  case captureNotice => dsimp only; split <;> rfl
  case sampleCompletion rl rd =>
    repeat' split
    · unfold State.captureSample; dsimp only; split
      · exact s.setFeed_settings _ _ rfl
      · rfl
    · rfl
    · unfold State.compareSample; dsimp only; repeat' split
      · exact s.setFeed_settings _ _ rfl
      · exact s.setFeed_settings _ _ rfl
      · rfl
    · rfl
  case feedsOffCommand => exact State.setFeed_settings _ _ _ rfl
  case feedCouplingLost r => exact State.setFeed_settings _ _ _ rfl

/-! ### Every command -/

/-- What a property of the settings has to pass through to be kept by every command. -/
structure PassesSettings (Q : Settings → Prop) : Prop where
  reset : Q State.reset.kept.settings
  retime : ∀ (a b c d : Word) (x : Settings), Q x → Q { x with
    params := { x.params with
      rollMs := clampWord 10 10000 a, strikeLimit := clampWord 1 15 b, keepRounds := clampWord 1 255 c
      sweepRounds := clampWord 0 255 d }
    rollMs := (clampWord 10 10000 a).toNat, strikeLimit := (clampWord 1 15 b).toNat
    keepRounds := (clampWord 1 255 c).toNat, sweepRounds := (clampWord 0 255 d).toNat }
  limits : ∀ (a b c d e : Word) (x : Settings), Q x → Q { x with
    params := { x.params with
      logicLimit := clampWord 1 4095 a, driveLimit := clampWord 1 4095 b, sumLimit := clampWord 1 8190 c
      tripA := clampWord 1 254 d, tripB := tripBAbove (clampWord 1 254 d) (clampWord 2 255 e) }
    limits := limitsOf (clampWord 1 4095 a) (clampWord 1 4095 b) (clampWord 1 8190 c) (clampWord 1 254 d)
      (tripBAbove (clampWord 1 254 d) (clampWord 2 255 e)) }
  params : ∀ (p : Params) (x : Settings), x.run = false → Q x → Q { x with params := p }
  classMap : ∀ (m : Vector ClassEntry 64) (x : Settings), x.run = false → Q x → Q { x with classMap := m }
  enterRun : ∀ s : State, Q s.enterRun.kept.settings
  softHold : ∀ x : Settings, Q x → Q { x with run := false }

theorem PassesSettings.passesKept {Q : Settings → Prop} (hQ : PassesSettings Q) :
    PassesKept fun s => Q s.kept.settings where
  kept h hs := by rw [h]; exact hs
  retime a b c d s hs := by rw [State.doRetime_eq]; exact hQ.retime a b c d _ hs
  limits a b c d e s hs := by rw [State.doLimits_eq]; exact hQ.limits a b c d e _ hs
  drive a s hs := by rw [State.doDrive_settings]; exact hs
  rearm s hs := by rw [State.doRearm_settings]; exact hs
  seen _ _ hs := hs
  alertMask _ _ hs := hs
  params p s hr hs := hQ.params p _ hr hs
  classMap m s hr hs := hQ.classMap m _ hr hs
  enterRun s _ _ := hQ.enterRun s
  softHold s _ hs := by rw [State.softHold_settings]; exact hQ.softHold _ hs

theorem PassesSettings.step {Q : Settings → Prop} (hQ : PassesSettings Q) {s t : State} (h : step s = .next t)
    (hs : Q s.kept.settings) : Q t.kept.settings := by
  obtain rfl | ⟨c, rest, -, hc⟩ := step_cases h
  · exact hs
  · replace hs : Q ({ s with pending := rest } : State).kept.settings := hs
    cases hm : ofMonitorOrFeed c with
    | true => rw [exec_settings hm hc]; exact hs
    | false =>
      by_cases hr : ∃ f l, c = .hardReset f l
      · obtain ⟨f, l, rfl⟩ := hr
        obtain rfl := Host.Outcome.next.inj hc
        exact hQ.reset
      · by_cases hd : ∃ r, c = .directoryCouplingLost r
        · obtain ⟨r, rfl⟩ := hd
          obtain rfl := Host.Outcome.next.inj hc
          rw [State.directoryLoss_kept]
          exact hs
        · push Not at hr hd
          exact hQ.passesKept.exec hm hr hd hc hs

theorem passesSettings_sound : PassesSettings Settings.sound where
  reset h := absurd h Bool.false_ne_true
  retime a b c d x hx hr := by
    obtain ⟨hp, hm, h1, h2, h3, h4, h5, h6, -, -, -, -, h11, h12, h13⟩ := hx hr
    exact ⟨Params.clamped_retime hp a b c d, hm, h1, h2, h3, h4, h5, h6, rfl, rfl, rfl, rfl, h11, h12, h13⟩
  limits a b c d e x hx hr := by
    obtain ⟨hp, hm, h1, h2, h3, -, h5, h6, h7, h8, h9, h10, h11, h12, h13⟩ := hx hr
    exact ⟨Params.clamped_limits hp a b c d e, hm, h1, h2, h3, rfl, h5, h6, h7, h8, h9, h10, h11, h12, h13⟩
  params p x hr _ h := absurd (hr.symm.trans h) Bool.false_ne_true
  classMap m x hr _ h := absurd (hr.symm.trans h) Bool.false_ne_true
  enterRun s _ := by
    rw [State.enterRun_settings]
    refine ⟨Params.clamped_idem _, ?_, rfl, rfl, rfl, rfl, rfl, rfl, rfl, rfl, rfl, rfl, rfl, rfl, rfl⟩
    refine (Vector.map_map ..).trans ?_
    exact congrArg (Vector.map · s.port.classMap) (funext ClassEntry.clamped_idem)
  softHold x _ h := absurd h Bool.false_ne_true

theorem passesSettings_inRange : PassesSettings Settings.inRange where
  reset := by simp only [Settings.inRange, Kept.settings, State.kept, State.reset]; omega
  retime a b c d x hx := by
    obtain ⟨h1, h2, h3, -, -, -, -, h8, h9, h10⟩ := hx
    refine ⟨h1, h2, h3, ?_, ?_, ?_, ?_, h8, h9, h10⟩ <;> dsimp only <;> rw [clampWord_toNat] <;> omega
  limits a b c d e x hx := hx
  params p x _ hx := hx
  classMap m x _ hx := hx
  enterRun s := by
    rw [State.enterRun_settings]
    refine ⟨?_, ?_, ?_, ?_, ?_, ?_, ?_, ?_, ?_, ?_⟩ <;>
      simp only [Params.settings, Params.clamped_eq] <;> rw [clampWord_toNat] <;> omega
  softHold x hx := hx

/-- Settles O57: both invariants read the settings alone, and every command passes them. -/
theorem stepKeepsSettings : Obligations.StepKeepsSettings := by
  intro s t h
  exact ⟨fun inv => (settingsInv_iff t).2 (passesSettings_sound.step h ((settingsInv_iff s).1 inv)),
    fun inv => (rangeInv_iff t).2 (passesSettings_inRange.step h ((rangeInv_iff s).1 inv))⟩

/-! ### The hard reset -/

/-- Every word of a slot of the reset state reads 0. -/
theorem Slot.word_default (k : Nat) : ({} : Slot).word k = 0 := by
  unfold Slot.word
  split
  case h_6 => split <;> simp
  all_goals rfl

/-- The words of the request slots are slot words and unlisted ones (section 8.2). -/
theorem areaOf_slotWord {addr : BitVec 11} (h1 : 0x400 ≤ addr.toNat) (h2 : addr.toNat < 0x500) :
    (∃ j k, areaOf addr = .slot j k) ∨ areaOf addr = .unlisted := by
  unfold areaOf; dsimp only
  rw [if_neg (by omega), if_neg (by omega), dif_neg (by omega), if_neg (by omega), dif_neg (by omega),
    dif_neg (by omega), dif_pos ⟨h1, h2⟩]
  split
  · exact .inl ⟨_, _, rfl⟩
  · exact .inr rfl

/-- Settles O3: the state written out is what the command answers, and its slots are the default ones. -/
theorem hardResetRestoresDefaults : Obligations.HardResetRestoresDefaults := by
  rintro f l s t rfl
  refine ⟨rfl, by simp [State.attnLow], fun addr h1 h2 => ?_⟩
  unfold State.readWord
  obtain ⟨j, k, ha⟩ | ha := areaOf_slotWord h1 h2
  · rw [ha]
    refine Eq.trans (congrArg (Slot.word · k) ?_) (Slot.word_default k)
    exact Vector.getElem_replicate ..
  · rw [ha]

/-- Settles O4: each invariant by the values of `State.reset`. -/
theorem resetMeetsInvariants : Obligations.ResetMeetsInvariants := by
  have hentry : ∀ n : Name, State.reset.entry n = {} := fun n => by simp [State.entry, State.reset]
  have hslot : ∀ k : SlotNo, State.reset.slot k = {} := fun k => by simp [State.slot, State.reset]
  refine ⟨?_, ?_, ?_, ?_, ?_, ?_, ?_, ?_, ?_, ?_, ?_, ?_, ?_, ?_⟩
  · exact MonitorInv.of_reset false false rfl rfl
  · constructor <;> simp [State.reset, Limits.inRange]
  · exact ⟨by decide, fun n => by rw [hentry]; decide⟩
  · constructor <;> simp [State.reset]
  · refine ⟨fun n => ?_, fun n m _ h => ?_, fun o h => ?_, fun o h => ?_⟩
    · rw [hentry]; constructor <;> simp
    · rw [hentry] at h; exact absurd rfl h
    · cases h
    · cases h
  · refine ⟨fun n h => ?_, fun h => absurd rfl h, fun h => by cases h⟩
    rw [hentry] at h; cases h
  · refine ⟨fun n => ?_, fun n => ?_, fun n h => ?_, ?_, ?_, ?_, ?_⟩
    · rw [hentry]; decide
    · rw [hentry]; decide
    · rw [hentry] at h; cases h
    all_goals intro o h; cases h
  · constructor <;> simp [State.reset, PassCounts.inRange]
  · constructor <;> simp [State.reset]
  · refine ⟨List.nodup_nil, fun k => ?_, fun k => ?_, fun k => ?_, fun k => ?_, fun k _ => ?_⟩
    all_goals rw [hslot]
    all_goals simp [State.reset]
  · exact (settingsInv_iff _).2 passesSettings_sound.reset
  · exact (rangeInv_iff _).2 passesSettings_inRange.reset
  · constructor <;> simp [State.reset]
  · intro h; cases h

end Sys2Proof.Machine
end

section
/-! PROOFS. Changes of the directory (chapter 5): what one change of entries or of the offer record has to meet so that
GEN stays even (R73), the directory's invariants hold on and a release owed stays with its name on the release list. -/

namespace Sys2Proof.Machine

variable {s t : State}

/-! ### Lists of names -/

theorem mem_insertName {n m : Name} {l : List Name} : m ∈ insertName n l ↔ m = n ∨ m ∈ l := by
  induction l with
  | nil => simp [insertName]
  | cons a rest ih =>
    unfold insertName
    split
    · simp
    · split
      · rename_i h; simp [h]
      · simp only [List.mem_cons, ih]
        constructor
        · rintro (h | h | h) <;> simp [h]
        · rintro (h | h | h) <;> simp [h]

theorem pairwise_insertName {n : Name} {l : List Name} (h : l.Pairwise (· < ·)) :
    (insertName n l).Pairwise (· < ·) := by
  induction l with
  | nil => simp [insertName]
  | cons a rest ih =>
    obtain ⟨ha, hr⟩ := List.pairwise_cons.1 h
    unfold insertName
    split
    · rename_i hn
      refine List.pairwise_cons.2 ⟨fun m hm => ?_, h⟩
      obtain rfl | hm := List.mem_cons.1 hm
      · exact hn
      · exact lt_trans hn (ha m hm)
    · split
      · exact h
      · rename_i h1 h2
        refine List.pairwise_cons.2 ⟨fun m hm => ?_, ih hr⟩
        obtain h | hm := mem_insertName.1 hm
        · rw [h]; exact lt_of_le_of_ne (not_lt.1 h1) (Ne.symm h2)
        · exact ha m hm

/-! ### One change -/

/-- The one clause of the directory's and line side's statements that a change need not meet. -/
inductive Exempt where
  /-- every clause is met -/
  | nothing
  /-- a ROLL's answer comes to be awaited -/
  | listening
  /-- the roll caller's call in hand is emptied -/
  | abandoned
  /-- a name leaves the release list or a release stops being owed, one without the other -/
  | owed
  /-- a report carries values of its own -/
  | live
  /-- a coupling that stands is left, and no block is told -/
  | coupling

/-- Only the directory, the release list, ALERT and the notices given differ. -/
structure OnlyDir (s t : State) : Prop where
  cm : t.cm = s.cm
  feed : t.feed = s.feed
  walker : t.walker = s.walker
  roll : t.roll = s.roll
  req : t.req = s.req
  line : t.line = { s.line with releases := t.line.releases }
  recGen : t.port.recGen = s.port.recGen
  serving : t.dir.serving = true → s.dir.serving = true
  given : ∀ c ∈ s.given, c ∈ t.given
  sorted : s.line.releases.Pairwise (· < ·) → t.line.releases.Pairwise (· < ·)

/-- A release comes to be owed only with its name on the release list, and a name comes on the list, or stays on it,
only with its release owed, but where one stood without the other before. -/
def OwedKept (s t : State) : Prop := ∀ n : Name,
  ((t.entry n).owed = true → n ∉ t.line.releases → (s.entry n).owed = true ∧ n ∉ s.line.releases) ∧
  (n ∈ t.line.releases → (t.entry n).owed = false → n ∈ s.line.releases ∧ (s.entry n).owed = false)

theorem OwedKept.refl (s : State) : OwedKept s s := fun _ => ⟨fun h1 h2 => ⟨h1, h2⟩, fun h1 h2 => ⟨h1, h2⟩⟩

theorem OwedKept.trans {u : State} (h1 : OwedKept s t) (h2 : OwedKept t u) : OwedKept s u := fun n =>
  ⟨fun ho hr => (h1 n).1 ((h2 n).1 ho hr).1 ((h2 n).1 ho hr).2,
    fun hr ho => (h1 n).2 ((h2 n).2 hr ho).1 ((h2 n).2 hr ho).2⟩

/-- As `OnlyDir`, where a coupling-lost notice of the directory unit may be taken too. -/
structure DirFrame (s t : State) : Prop where
  cm : t.cm = s.cm
  feed : t.feed = s.feed
  walker : t.walker = s.walker
  roll : t.roll = s.roll
  req : t.req = s.req
  line : t.line = { s.line with releases := t.line.releases }
  recGen : t.port.recGen = s.port.recGen
  given : ∀ c ∈ s.given, (∀ r, c ≠ .directoryCouplingLost r) → c ∈ t.given
  sorted : s.line.releases.Pairwise (· < ·) → t.line.releases.Pairwise (· < ·)

theorem OnlyDir.frame (d : OnlyDir s t) : DirFrame s t :=
  ⟨d.cm, d.feed, d.walker, d.roll, d.req, d.line, d.recGen, fun c hc _ => d.given c hc, d.sorted⟩

/-- A change of the directory that keeps its invariants, but for what it is exempt from. -/
structure DirChange (x : Exempt) (s t : State) : Prop where
  frame : DirFrame s t
  gen : ∀ n, genEven (t.entry n).gen = genEven (s.entry n).gen
  inv : DirInv s → DirInv t
  quiet : DirInv s → QuietInv s → QuietInv t
  live : x ≠ .live → DirInv s → 1 ≤ s.roll.strikeLimit → 1 ≤ s.roll.keepRounds → LiveInv s → LiveInv t
  owed : x ≠ .owed → DirInv s → OwedKept s t

/-- What the new content of entry n has to meet. -/
structure EntryFits (x : Exempt) (s : State) (n : Name) (e : Entry) : Prop where
  ok : EntryOk e
  ident : e.state = .vacant ∨ (s.entry n).state ≠ .vacant ∧ e.ident = (s.entry n).ident
  notOffered : e.state ≠ .offered
  quiet : e.state.coupledOnly = true →
    (s.entry n).state.coupledOnly = true ∨ s.takesRollReports = true ∨ s.cm.state.lineOn = true
  live : x ≠ .live → 1 ≤ s.roll.keepRounds → LiveInv s → e.strikes < s.roll.strikeLimit ∧
    e.keep ≤ s.roll.keepRounds ∧ (e.state = .stale → 1 ≤ e.keep)

theorem EntryOk.withGen {e : Entry} (h : EntryOk e) (g : Word) : EntryOk { e with gen := g } :=
  ⟨h.vacant, h.keep, h.strikes, h.owed, h.conflict⟩

theorem EntryFits.withGen {x : Exempt} {n : Name} {e : Entry} (h : EntryFits x s n e) (g : Word) :
    EntryFits x s n { e with gen := g } :=
  ⟨h.ok.withGen g, h.ident, h.notOffered, h.quiet, h.live⟩

theorem lineOn_of_serving {c : CouplingState} (h : c = .serving) : c.lineOn = true := by subst h; rfl

/-- Where roll reports are taken, the coupling is SERVING or its loss has not reached the directory unit (R129). -/
theorem QuietInv.of_takesRollReports (q : QuietInv s) (h : s.takesRollReports = true) :
    s.cm.state.lineOn = true ∨ ∃ r, .directoryCouplingLost r ∈ s.given := by
  obtain h | h := s.takesRollReports_iff.1 h
  · exact .inl (lineOn_of_serving h)
  · exact (q.reports h).imp lineOn_of_serving id

/-- A change of entries, each changed one as `EntryFits` has it, with the offer record as it is or emptied. -/
theorem DirChange.of_entries {x : Exempt} (d : OnlyDir s t)
    (gen : ∀ n, genEven (t.entry n).gen = genEven (s.entry n).gen)
    (offer : t.dir.offer = s.dir.offer ∨ t.dir.offer = none)
    (fits : DirInv s → ∀ n, t.entry n = s.entry n ∨ EntryFits x s n (t.entry n))
    (owed : x ≠ .owed → DirInv s → OwedKept s t) : DirChange x s t := by
  have hoffer : ∀ o, t.dir.offer = some o → s.dir.offer = some o := fun o h => by
    obtain ho | ho := offer
    · rw [← ho]; exact h
    · rw [ho] at h; cases h
  have hgiven : (s.cm.state.lineOn = true ∨ ∃ r, .directoryCouplingLost r ∈ s.given) →
      t.cm.state.lineOn = true ∨ ∃ r, .directoryCouplingLost r ∈ t.given := by
    rw [d.cm]; exact Or.imp_right fun ⟨r, hr⟩ => ⟨r, d.given _ hr⟩
  refine ⟨d.frame, gen, fun inv => ?_, fun inv q => ?_, fun hx inv hs hk l => ?_, owed⟩
  · refine ⟨fun n => ?_, fun n m hnm hn hm => ?_, fun o ho => inv.prior o (hoffer o ho), fun o ho hst => ?_⟩
    · obtain h | h := fits inv n
      · rw [h]; exact inv.entries n
      · exact h.ok
    · have hstay : ∀ k, (t.entry k).state ≠ .vacant →
          (s.entry k).state ≠ .vacant ∧ (t.entry k).ident = (s.entry k).ident := fun k hk => by
        obtain h | h := fits inv k
        · rw [h] at hk ⊢; exact ⟨hk, rfl⟩
        · exact h.ident.resolve_left hk
      rw [(hstay n hn).2, (hstay m hm).2]
      exact inv.unique n m hnm (hstay n hn).1 (hstay m hm).1
    · obtain h | h := fits inv o.name
      · rw [h] at hst
        obtain ⟨h1, h2, h3, h4⟩ := inv.offer o (hoffer o ho) hst
        exact ⟨by rw [h]; exact h1, h2, h3, h4⟩
      · exact absurd hst h.notOffered
  · refine ⟨fun n hn => ?_, fun h => ?_, fun h => ?_⟩
    · obtain he | he := fits inv n
      · rw [he] at hn; exact hgiven (q.entries n hn)
      · obtain hc | hc | hc := he.quiet hn
        · exact hgiven (q.entries n hc)
        · exact hgiven (q.of_takesRollReports hc)
        · exact hgiven (.inl hc)
    · obtain ho | ho := offer
      · rw [ho] at h; exact hgiven (q.offer h)
      · exact absurd ho h
    · rw [d.cm]; exact (q.reports (d.serving h)).imp_right fun ⟨r, hr⟩ => ⟨r, d.given _ hr⟩
  · have hlive : ∀ n, (t.entry n).strikes < s.roll.strikeLimit ∧ (t.entry n).keep ≤ s.roll.keepRounds ∧
        ((t.entry n).state = .stale → 1 ≤ (t.entry n).keep) := fun n => by
      obtain h | h := fits inv n
      · rw [h]; exact ⟨l.strikes n, l.keep n, l.stale n⟩
      · exact h.live hx hk l
    rw [← d.roll] at hlive
    refine ⟨fun n => (hlive n).1, fun n => (hlive n).2.1, fun n => (hlive n).2.2, fun o ho => ?_,
      fun o ho => l.priorKind o (hoffer o ho), fun o ho => l.priorStrikes o (hoffer o ho),
      fun o ho => l.priorStale o (hoffer o ho)⟩
    rw [d.roll]; exact l.priorKeep o (hoffer o ho)

/-- How one entry's release stands after a change: as before, on the list and owed, or neither. -/
def EntryOwed (s : State) (rel : List Name) (n : Name) (owed : Bool) : Prop :=
  (rel = s.line.releases ∧ owed = (s.entry n).owed) ∨ (rel = insertName n s.line.releases ∧ owed = true) ∨
  (rel = s.line.releases.filter (fun m => m ≠ n) ∧ owed = false)

/-- A change of one entry. -/
theorem DirChange.of_entry {x : Exempt} (d : OnlyDir s t) (n : Name) (e : Entry)
    (he : ∀ m, t.entry m = if n = m then { e with gen := genAfter (s.entry n).gen } else s.entry m)
    (offer : t.dir.offer = s.dir.offer ∨ t.dir.offer = none) (fits : DirInv s → EntryFits x s n e)
    (owed : x ≠ .owed → DirInv s → EntryOwed s t.line.releases n e.owed) : DirChange x s t := by
  refine .of_entries d (fun m => ?_) offer (fun inv m => ?_) fun hx inv m => ?_
  · rw [he m]; split
    · rename_i h; rw [← h]; exact genEven_genAfter _
    · rfl
  · rw [he m]; split
    · rename_i h; subst h; exact .inr ((fits inv).withGen _)
    · exact .inl rfl
  · rw [he m]
    by_cases hm : n = m
    · subst hm
      rw [if_pos rfl]
      obtain ⟨h1, h2⟩ | ⟨h1, h2⟩ | ⟨h1, h2⟩ := owed hx inv
      · simp only [h1, h2]; exact OwedKept.refl s n
      · simp [h1, h2, mem_insertName]
      · simp [h1, h2]
    · rw [if_neg hm]
      have hmem : m ∈ t.line.releases ↔ m ∈ s.line.releases := by
        obtain ⟨h1, -⟩ | ⟨h1, -⟩ | ⟨h1, -⟩ := owed hx inv <;> rw [h1]
        · simp [mem_insertName, Ne.symm hm]
        · simp [Ne.symm hm]
      simp only [hmem]; exact OwedKept.refl s m

theorem OnlyDir.stableEntry (n : Name) (e : Entry) (s : State) : OnlyDir s (s.stableEntry n e) :=
  ⟨rfl, rfl, rfl, rfl, rfl, rfl, rfl, id, fun _ => id, id⟩

/-- A stable change of one entry that leaves RELEASE_OWED as it is. -/
theorem DirChange.stableEntry {x : Exempt} (n : Name) (e : Entry) (fits : DirInv s → EntryFits x s n e)
    (owed : DirInv s → e.owed = (s.entry n).owed) : DirChange x s (s.stableEntry n e) :=
  .of_entry (.stableEntry n e s) n e (s.entry_stableEntry n · e) (.inl rfl) fits
    fun _ inv => .inl ⟨rfl, owed inv⟩

/-! ### Entries -/

theorem EntryOk.vacantEntry (owed : Bool) : EntryOk (vacantEntry owed) := by
  constructor <;> simp [Machine.vacantEntry]

theorem EntryFits.vacantEntry (x : Exempt) (n : Name) (owed : Bool) : EntryFits x s n (vacantEntry owed) :=
  ⟨.vacantEntry owed, .inl rfl, by simp [Machine.vacantEntry], fun h => absurd h Bool.false_ne_true,
    fun _ hk l => ⟨Nat.lt_of_le_of_lt (Nat.zero_le _) (l.strikes n), Nat.zero_le _, fun h => by cases h⟩⟩

/-- Only VACANT and DISPUTED owe a release (R76). -/
theorem DirInv.not_owed (inv : DirInv s) {n : Name} (h1 : (s.entry n).state ≠ .vacant)
    (h2 : (s.entry n).state ≠ .disputed) : (s.entry n).owed = false := by
  rw [← Bool.not_eq_true]
  exact fun h => ((inv.entries n).owed h).elim h1 h2

theorem OnlyDir.vacateOwed (n : Name) (s : State) : OnlyDir s (s.vacateOwed n) :=
  ⟨rfl, rfl, rfl, rfl, rfl, rfl, rfl, id, fun _ => id, pairwise_insertName⟩

theorem State.entry_vacateOwed (n m : Name) (s : State) : (s.vacateOwed n).entry m =
    if n = m then { vacantEntry true with gen := genAfter (s.entry n).gen } else s.entry m :=
  s.entry_stableEntry n m (vacantEntry true)

theorem DirChange.vacateOwed (x : Exempt) (n : Name) (s : State) : DirChange x s (s.vacateOwed n) :=
  .of_entry (.vacateOwed n s) n (vacantEntry true) (s.entry_vacateOwed n) (.inl rfl)
    (fun _ => .vacantEntry x n true) fun _ _ => .inr (.inl ⟨rfl, rfl⟩)

theorem DirChange.depart (x : Exempt) (n : Name) (hs : (s.entry n).state = .stale) :
    DirChange x s (s.depart n) := by
  unfold State.depart
  split
  · refine .stableEntry n _ (fun inv => ?_) fun _ => rfl
    have ho := inv.not_owed (n := n) (by simp [hs]) (by simp [hs])
    refine ⟨?_, .inr ⟨by simp [hs], rfl⟩, by simp, fun h => absurd h Bool.false_ne_true, fun _ hk l => ?_⟩
    · constructor <;> simp [ho]
    · exact ⟨Nat.lt_of_le_of_lt (Nat.zero_le _) (l.strikes n), Nat.zero_le _, fun h => by cases h⟩
  · exact .vacateOwed x n s

/-- A dispute, whatever notice is given of it (R87, R109). -/
theorem DirChange.dispute (x : Exempt) (n : Name) (g : List Instr) (hg : ∀ c ∈ s.given, c ∈ g)
    (hs : (s.entry n).state ≠ .vacant)
    (hq : (s.entry n).state.coupledOnly = true ∨ s.takesRollReports = true) :
    DirChange x s { (s.stableEntry n { s.entry n with
      state := .disputed, conflict := true, owed := true, strikes := 0, keep := 0 }).joinRelease n with given := g } := by
  refine .of_entry ⟨rfl, rfl, rfl, rfl, rfl, rfl, rfl, id, hg, pairwise_insertName⟩ n { s.entry n with
      state := .disputed, conflict := true, owed := true, strikes := 0, keep := 0 }
    (fun m => s.entry_stableEntry ..) (.inl rfl) (fun inv => ?_) fun _ _ => .inr (.inl ⟨rfl, rfl⟩)
  refine ⟨?_, .inr ⟨hs, rfl⟩, by simp, fun _ => hq.imp_right .inl, fun _ _ l =>
    ⟨Nat.lt_of_le_of_lt (Nat.zero_le _) (l.strikes n), Nat.zero_le _, fun h => by cases h⟩⟩
  constructor <;> simp

theorem DirChange.disputeEntry (x : Exempt) (n : Name) (hs : (s.entry n).state ≠ .vacant)
    (hq : (s.entry n).state.coupledOnly = true ∨ s.takesRollReports = true) :
    DirChange x s (s.disputeEntry n) :=
  .dispute x n _ (fun _ h => List.mem_append_left _ h) hs hq

/-- What a resolved dispute leaves fits (R77). -/
theorem EntryFits.resolvedDispute (x : Exempt) {n : Name} (m : AckMask) (inv : DirInv s)
    (hs : (s.entry n).state = .disputed) : EntryFits x s n (resolvedDispute m (s.entry n)) := by
  have hk : (s.entry n).keep = 0 := by
    by_contra h; have := (inv.entries n).keep h; simp [hs] at this
  have hst : (s.entry n).strikes = 0 := by
    by_contra h; have := (inv.entries n).strikes h; simp [hs] at this
  unfold Machine.resolvedDispute
  split
  · refine ⟨?_, .inr ⟨by simp [hs], rfl⟩, by simp, fun h => absurd h Bool.false_ne_true, fun _ _ l =>
      ⟨l.strikes n, l.keep n, fun h => by cases h⟩⟩
    constructor <;> simp [hk, hst]
  · exact .vacantEntry x n false

theorem resolvedDispute_owed (m : AckMask) (e : Entry) : (resolvedDispute m e).owed = false := by
  unfold resolvedDispute; split <;> rfl

/-- A VACANT entry that owes no release any longer fits. -/
theorem EntryFits.notOwed (x : Exempt) {n : Name} (inv : DirInv s) (hs : (s.entry n).state = .vacant) :
    EntryFits x s n { s.entry n with owed := false } := by
  have hok := inv.entries n
  refine ⟨⟨hok.vacant, hok.keep, hok.strikes, by simp, hok.conflict⟩, .inl hs, by simp [hs], fun h => .inl h,
    fun _ _ l => ⟨l.strikes n, l.keep n, l.stale n⟩⟩

/-! ### The release-sent notice (R77) -/

theorem OnlyDir.refl (s : State) : OnlyDir s s :=
  ⟨rfl, rfl, rfl, rfl, rfl, rfl, rfl, id, fun _ => id, id⟩

theorem OnlyDir.trans {u : State} (h1 : OnlyDir s t) (h2 : OnlyDir t u) : OnlyDir s u where
  cm := h2.cm.trans h1.cm
  feed := h2.feed.trans h1.feed
  walker := h2.walker.trans h1.walker
  roll := h2.roll.trans h1.roll
  req := h2.req.trans h1.req
  line := by rw [h2.line, h1.line]
  recGen := h2.recGen.trans h1.recGen
  serving := h1.serving ∘ h2.serving
  given c hc := h2.given c (h1.given c hc)
  sorted := h2.sorted ∘ h1.sorted

theorem OnlyDir.leaveRelease (n : Name) (s : State) : OnlyDir s (s.leaveRelease n) :=
  ⟨rfl, rfl, rfl, rfl, rfl, rfl, rfl, id, fun _ => id, List.Pairwise.filter _⟩

theorem DirChange.refl (x : Exempt) (s : State) : DirChange x s s :=
  .of_entries (.refl s) (fun _ => rfl) (.inl rfl) (fun _ _ => .inl rfl) fun _ _ => .refl s

theorem DirChange.leaveRelease (n : Name) (s : State) : DirChange .owed s (s.leaveRelease n) :=
  .of_entries (.leaveRelease n s) (fun _ => rfl) (.inl rfl) (fun _ _ => .inl rfl) fun h => absurd rfl h

/-- What the release-sent notice leaves of the entry: itself, or a content that owes no release. -/
theorem State.takeReleaseSent_cases (n : Name) (s : State) :
    (s.takeReleaseSent n = s ∧ (DirInv s → (s.entry n).owed = false)) ∨
    ∃ e, s.takeReleaseSent n = s.stableEntry n e ∧ e.owed = false ∧ ∀ x, DirInv s → EntryFits x s n e := by
  unfold State.takeReleaseSent; dsimp only
  split
  · rename_i hs
    split
    · exact .inr ⟨_, rfl, rfl, fun x inv => .notOwed x inv hs⟩
    · rename_i h; exact .inl ⟨rfl, fun _ => by simpa using h⟩
  · rename_i hs
    exact .inr ⟨_, rfl, resolvedDispute_owed .., fun x inv => .resolvedDispute x _ inv hs⟩
  · rename_i h1 h2
    exact .inl ⟨rfl, fun inv => inv.not_owed h1 h2⟩

/-- By its own command the notice leaves the release list as it is. -/
theorem DirChange.takeReleaseSent (n : Name) (s : State) : DirChange .owed s (s.takeReleaseSent n) := by
  obtain ⟨h, -⟩ | ⟨e, h, -, hfits⟩ := s.takeReleaseSent_cases n
  · rw [h]; exact .refl _ s
  · rw [h]
    exact .of_entry (.stableEntry n e s) n e (s.entry_stableEntry n · e) (.inl rfl) (hfits _) fun h => absurd rfl h

/-- With the RELEASE sent the name leaves the list too (R48, R49). -/
theorem DirChange.releaseSent (x : Exempt) (n : Name) (s : State) :
    DirChange x s ((s.leaveRelease n).takeReleaseSent n) := by
  have hinv : DirInv s → DirInv (s.leaveRelease n) := (DirChange.leaveRelease n s).inv
  obtain ⟨h, ho⟩ | ⟨e, h, ho, hfits⟩ := (s.leaveRelease n).takeReleaseSent_cases n
  · rw [h]
    refine .of_entries (.leaveRelease n s) (fun _ => rfl) (.inl rfl) (fun _ _ => .inl rfl) fun _ inv m => ?_
    have ho' : (s.entry n).owed = false := ho (hinv inv)
    by_cases hm : m = n
    · subst hm; simp [State.entry_eq] at ho' ⊢; simp [ho']
    · have hmem : m ∈ (s.leaveRelease n).line.releases ↔ m ∈ s.line.releases := by simp [hm]
      simp only [hmem]; exact OwedKept.refl s m
  · rw [h]
    refine .of_entry ((OnlyDir.leaveRelease n s).trans (.stableEntry n e _)) n e
      ((s.leaveRelease n).entry_stableEntry n · e) (.inl rfl) (fun inv => ?_) fun _ _ => .inr (.inr ⟨rfl, ho⟩)
    obtain ⟨h1, h2, h3, h4, h5⟩ := hfits x (hinv inv)
    exact ⟨h1, h2, h3, h4, fun hx hk l => h5 hx hk
      ⟨l.strikes, l.keep, l.stale, l.priorKeep, l.priorKind, l.priorStrikes, l.priorStale⟩⟩

/-! ### Acknowledgement and FORGET (R79, R92) -/

theorem DirChange.acknowledge (x : Exempt) (n : Name) (v : Word) (s : State) :
    DirChange x s (s.acknowledge n v) := by
  unfold State.acknowledge; dsimp only
  split
  · split
    · rename_i hs
      refine .stableEntry n _ (fun inv => ?_) fun _ => rfl
      have hok := inv.entries n
      have ho := inv.not_owed (n := n) (by simp [hs]) (by simp [hs])
      refine ⟨⟨by simp, fun h => ?_, fun _ => .inl rfl, by simp [ho], fun h => ?_⟩, .inr ⟨by simp [hs], rfl⟩,
        by simp, fun _ => .inl (by rw [hs]; rfl), fun _ _ l => ⟨l.strikes n, l.keep n, fun h => by cases h⟩⟩
      · have := hok.keep h; simp [hs] at this
      · have := hok.conflict h; simp [hs] at this
    · exact .vacateOwed x n s
    · exact .refl x s
  · exact .refl x s

theorem DirChange.forget (x : Exempt) (n : Name) (s : State) : DirChange x s (s.forget n) := by
  unfold State.forget
  split
  · exact .vacateOwed x n s
  · exact .refl x s

/-! ### Offers (R81 to R83, R89) -/

/-- What an offer of entry n has to meet: the entry's new content and the record that keeps the prior one. -/
structure OfferFits (x : Exempt) (s : State) (n : Name) (e : Entry) (i : Identity) (k : OfferKind) (prior : Entry) :
    Prop where
  ok : EntryOk e
  state : e.state = .offered
  ident : e.ident = i
  alone : ∀ m, m ≠ n → (s.entry m).state ≠ .vacant → (s.entry m).ident ≠ i
  owed : x ≠ .owed → e.owed = (s.entry n).owed
  priorOk : EntryOk prior
  priorIdent : prior.state = .vacant ∨ prior.ident = i
  restores : prior.state = .vacant ∨ prior.state = .stale ∨ prior.state = .retiring
  free : prior.owed = false
  live : LiveInv s → e.strikes = 0 ∧ e.keep = 0 ∧ prior.keep ≤ s.roll.keepRounds ∧
    (prior.keep ≠ 0 → k = .ret) ∧ (k = .ret → prior.strikes = 0) ∧ (prior.state = .stale → 1 ≤ prior.keep)

theorem DirChange.offer {x : Exempt} (n : Name) (e : Entry) (i : Identity) (k : OfferKind) (prior : Entry)
    (hc : s.cm.state.lineOn = true) (fits : DirInv s → OfferFits x s n e i k prior) :
    DirChange x s ((s.stableEntry n e).recordOffer n i k prior) := by
  have he : ∀ m, ((s.stableEntry n e).recordOffer n i k prior).entry m =
      if n = m then { e with gen := genAfter (s.entry n).gen } else s.entry m := (s.entry_stableEntry n · e)
  refine ⟨⟨rfl, rfl, rfl, rfl, rfl, rfl, rfl, fun _ h _ => h, id⟩, fun m => ?_, fun inv => ?_,
    fun _ q => ⟨fun _ _ => .inl hc, fun _ => .inl hc, q.reports⟩, fun _ inv hs hk l => ?_, fun hx inv m => ?_⟩
  · rw [he m]; split
    · rename_i h; rw [← h]; exact genEven_genAfter _
    · rfl
  · have f := fits inv
    have hpart : ∀ m, n ≠ m → (s.entry m).state ≠ .vacant → e.ident ≠ (s.entry m).ident := fun m hm hv => by
      rw [f.ident]; exact (f.alone m (Ne.symm hm) hv).symm
    refine ⟨fun m => ?_, fun a b hab ha hb => ?_, fun o ho => ?_, fun o ho hst => ?_⟩
    · rw [he m]; split
      · exact f.ok.withGen _
      · exact inv.entries m
    · rw [he a] at ha ⊢
      rw [he b] at hb ⊢
      by_cases h1 : n = a
      · have h2 : n ≠ b := fun h => hab (h1.symm.trans h)
        rw [if_pos h1, if_neg h2]
        rw [if_neg h2] at hb
        exact hpart b h2 hb
      · rw [if_neg h1] at ha ⊢
        by_cases h2 : n = b
        · rw [if_pos h2]; exact (hpart a h1 ha).symm
        · rw [if_neg h2] at hb ⊢; exact inv.unique a b hab ha hb
    · obtain rfl := Option.some.inj ho; exact f.priorOk
    · obtain rfl := Option.some.inj ho
      exact ⟨by rw [he n, if_pos rfl]; exact f.ident, f.priorIdent, f.restores, f.free⟩
  · obtain ⟨h1, h2, h3, h4, h5, h6⟩ := (fits inv).live l
    have hst := (fits inv).state
    have hprior : ∀ {P : Offer → Prop}, P ⟨n, i, k, prior⟩ → ∀ o,
        ((s.stableEntry n e).recordOffer n i k prior).dir.offer = some o → P o := fun hP o ho => by
      obtain rfl := Option.some.inj ho; exact hP
    refine ⟨fun m => ?_, fun m => ?_, fun m hm => ?_, hprior h3, hprior h4, hprior h5, hprior h6⟩
    · rw [he m]; split
      · exact Nat.lt_of_le_of_lt (Nat.le_of_eq h1) hs
      · exact l.strikes m
    · rw [he m]; split
      · exact Nat.le_trans (Nat.le_of_eq h2) (Nat.zero_le _)
      · exact l.keep m
    · rw [he m] at hm ⊢
      by_cases h : n = m
      · rw [if_pos h, hst] at hm; cases hm
      · rw [if_neg h] at hm ⊢; exact l.stale m hm
  · rw [he m]
    by_cases h : n = m
    · subst h; rw [if_pos rfl]; simp only [(fits inv).owed hx]; exact OwedKept.refl s n
    · rw [if_neg h]; exact OwedKept.refl s m

theorem State.holder_none {i : Identity} (h : s.holder i = none) (m : Name) (hm : (s.entry m).state ≠ .vacant) :
    (s.entry m).ident ≠ i := by
  have := List.find?_eq_none.1 h m (List.mem_finRange m)
  simpa [hm] using this

theorem State.holder_some {i : Identity} {n : Name} (h : s.holder i = some n) :
    (s.entry n).state ≠ .vacant ∧ (s.entry n).ident = i := by
  simpa using List.find?_some h

/-- A fresh offer of a free name to an identity that no entry holds (R81, R83). -/
theorem OfferFits.new (x : Exempt) {n : Name} {i : Identity} (inv : DirInv s) (hi : s.holder i = none)
    (hf : (s.entry n).isFree = true) (c r : Byte) (o : Bool) :
    OfferFits x s n { state := .offered, ident := i, cls := c, role := r, outside := o } i .new (s.entry n) := by
  obtain ⟨hv, ho⟩ : (s.entry n).state = .vacant ∧ (s.entry n).owed = false := by simpa [Entry.isFree] using hf
  have hok := inv.entries n
  have hkeep : (s.entry n).keep = 0 := by
    by_contra h; have := hok.keep h; simp [hv] at this
  refine ⟨?_, rfl, rfl, fun m _ => s.holder_none hi m, fun _ => ho.symm, hok, .inl hv, .inl hv, ho, fun l => ?_⟩
  · constructor <;> simp
  · refine ⟨rfl, rfl, l.keep n, fun h => absurd hkeep h, (by simp), fun h => ?_⟩
    simp [hv] at h

/-- The offer of an entry to the identity it holds (R81, R83). -/
theorem OfferFits.ret (x : Exempt) {n : Name} (inv : DirInv s)
    (hs : (s.entry n).state = .stale ∨ (s.entry n).state = .retiring) (c r : Byte) :
    OfferFits x s n { s.entry n with
      state := .offered, ident := (s.entry n).ident, cls := c, role := r, strikes := 0, keep := 0 }
      (s.entry n).ident .ret (s.entry n) := by
  have hv : (s.entry n).state ≠ .vacant := by rcases hs with h | h <;> simp [h]
  have ho : (s.entry n).owed = false := inv.not_owed hv (by rcases hs with h | h <;> simp [h])
  have hok := inv.entries n
  refine ⟨?_, rfl, rfl, fun m hm hmv h => inv.unique m n hm hmv hv h, fun _ => rfl, hok, .inr rfl, .inr hs, ho,
    fun l => ⟨rfl, rfl, l.keep n, fun _ => rfl, fun _ => ?_, l.stale n⟩⟩
  · constructor <;> simp [ho]
  · by_contra h
    rcases hok.strikes h with h | h <;> rcases hs with h' | h' <;> simp [h'] at h

/-- A re-claim leaves the entry and fills the record (R81, R83). -/
theorem DirChange.reclaim (x : Exempt) (n : Name) (i : Identity) (hc : s.cm.state.lineOn = true)
    (hs : (s.entry n).state = .bound ∨ (s.entry n).state = .held) :
    DirChange x s (s.recordOffer n i .reclaim (s.entry n)) := by
  have hkeep : DirInv s → (s.entry n).keep = 0 := fun inv => by
    by_contra h; have := (inv.entries n).keep h; rcases hs with h | h <;> simp [h] at this
  have hprior : ∀ {P : Offer → Prop}, P ⟨n, i, .reclaim, s.entry n⟩ → ∀ o,
      (s.recordOffer n i .reclaim (s.entry n)).dir.offer = some o → P o := fun hP o ho => by
    obtain rfl := Option.some.inj ho; exact hP
  refine ⟨⟨rfl, rfl, rfl, rfl, rfl, rfl, rfl, fun _ h _ => h, id⟩, fun m => rfl, fun inv => ?_,
    fun _ q => ⟨fun _ _ => .inl hc, fun _ => .inl hc, q.reports⟩, fun _ inv _ _ l => ?_, fun _ _ => .refl s⟩
  · refine ⟨inv.entries, inv.unique, hprior (inv.entries n), hprior fun h => ?_⟩
    have h : (s.entry n).state = .offered := h
    rcases hs with hs | hs <;> rw [hs] at h <;> cases h
  · refine ⟨l.strikes, l.keep, l.stale, hprior (l.keep n), hprior fun h => absurd (hkeep inv) h,
      hprior (by simp), hprior fun h => ?_⟩
    have h : (s.entry n).state = .stale := h
    rcases hs with hs | hs <;> rw [hs] at h <;> cases h

theorem State.victim_stale {n : Name} (l : List Name) (h : s.leastKeep l = some n) :
    (s.entry n).state = .stale := by
  induction l generalizing n with
  | nil => cases h
  | cons a rest ih =>
    unfold State.leastKeep at h
    split at h
    · split at h
      · rename_i hs; rw [← Option.some.inj h]; exact hs
      · cases h
    · rename_i m hm
      split at h
      · rename_i hs; rw [← Option.some.inj h]; exact hs.1
      · rw [← Option.some.inj h]; exact ih hm

/-- The changes that come with name choice (R82, R83). -/
theorem DirChange.makeOffer (x : Exempt) (i : Identity) (c : Byte) (hc : s.cm.state.lineOn = true) :
    DirChange x s (s.makeOffer i c (s.nameChoice i c)) := by
  have hevict : DirChange x s (s.evict s.victim) := by
    unfold State.evict
    split
    · rename_i n hn; exact .depart x n (s.victim_stale _ hn)
    · exact .refl x s
  have hnew : ∀ n, s.holder i = none → (s.entry n).isFree = true → DirChange x s (s.makeOffer i c (.new n)) :=
    fun n hi hf => .offer n _ i .new _ hc fun inv => .new x inv hi hf ..
  unfold State.nameChoice
  split
  · rename_i n hn
    obtain ⟨-, hi⟩ := s.holder_some hn
    have hret : (s.entry n).state = .stale ∨ (s.entry n).state = .retiring →
        DirChange x s (s.makeOffer i c (.ret n)) := fun hs => by
      subst hi; exact .offer n _ _ .ret _ hc fun inv => .ret x inv hs ..
    split
    · rename_i hs; exact .reclaim x n i hc (.inl hs)
    · rename_i hs; exact .reclaim x n i hc (.inr hs)
    · rename_i hs; exact hret (.inl hs)
    · rename_i hs; exact hret (.inr hs)
    · exact .refl x s
  · rename_i hi
    split
    · rename_i n hn
      have hfound := List.find?_some hn
      rw [Bool.and_eq_true] at hfound
      exact hnew n hi hfound.1
    · split
      · rename_i n hn; exact hnew n hi (List.find?_some (p := fun m => (s.entry m).isFree) hn)
      · split
        · exact hevict
        · exact .refl x s

end Sys2Proof.Machine
end

section
/-! PROOFS. The reports and notices the directory unit takes (R77, R84 to R91, R94, R95), as changes of the directory. -/

namespace Sys2Proof.Machine

variable {s t : State}

/-! ### Outcomes (R84 to R89) -/

theorem DirChange.clearOffer (x : Exempt) (s : State) : DirChange x s s.clearOffer :=
  .of_entries ⟨rfl, rfl, rfl, rfl, rfl, rfl, rfl, id, fun _ => id, id⟩ (fun _ => rfl) (.inr rfl) (fun _ _ => .inl rfl)
    fun _ _ => .refl s

/-- A claimed entry that is confirmed: HELD or BOUND, no strikes, whatever the report and the round say of it
(R84 to R86, R89). -/
theorem EntryFits.confirmed (x : Exempt) {n : Name} (inv : DirInv s) (hs : (s.entry n).state = .offered)
    {st : EntryState} (hst : st = .held ∨ st = .bound) (sticky : Bool) (d : Byte) (w : Word) :
    EntryFits x s n { s.entry n with
      state := st, sticky := sticky, conflict := false, devstat := d, stamp := w, strikes := 0 } := by
  have hok := inv.entries n
  have hk : (s.entry n).keep = 0 := by
    by_contra h; have := hok.keep h; simp [hs] at this
  have ho := inv.not_owed (n := n) (by simp [hs]) (by simp [hs])
  refine ⟨?_, .inr ⟨by simp [hs], rfl⟩, by rcases hst with h | h <;> simp [h], fun _ => .inl (by rw [hs]; rfl),
    fun _ _ l => ⟨Nat.lt_of_le_of_lt (Nat.zero_le _) (l.strikes n), l.keep n, fun h => ?_⟩⟩
  · constructor <;> simp [hk, ho]
    rcases hst with h | h <;> simp [h]
  · rcases hst with h' | h' <;> simp [h'] at h

/-- A BOUND or HELD entry with live and status fields written (R85, R90). -/
theorem EntryFits.stamped (x : Exempt) {n : Name} (inv : DirInv s)
    (hs : (s.entry n).state = .bound ∨ (s.entry n).state = .held) (d : Byte) (w : Word) :
    EntryFits x s n { s.entry n with devstat := d, stamp := w, strikes := 0 } := by
  have hok := inv.entries n
  refine ⟨⟨fun h => ?_, hok.keep, by simp, hok.owed, hok.conflict⟩, .inr ⟨?_, rfl⟩, ?_, .inl,
    fun _ _ l => ⟨Nat.lt_of_le_of_lt (Nat.zero_le _) (l.strikes n), l.keep n, l.stale n⟩⟩
  · rcases hs with h' | h' <;> simp [h'] at h
  · rcases hs with h | h <;> simp [h]
  · rcases hs with h | h <;> simp [h]

/-- What a failed RETURN restores fits (R85), and so does what a loss of the coupling restores (R94). -/
theorem EntryFits.restored (x : Exempt) (inv : DirInv s) {o : Offer} (ho : s.dir.offer = some o)
    (hs : (s.entry o.name).state = .offered) : EntryFits x s o.name o.prior := by
  have hok := inv.prior o ho
  have hfit := inv.offer o ho hs
  have hr := hfit.restores
  refine ⟨hok, ?_, ?_, fun h => ?_, fun _ hk l => ⟨?_, l.priorKeep o ho, l.priorStale o ho⟩⟩
  · refine hfit.prior.imp_right fun h => ⟨by simp [hs], ?_⟩
    rw [h, hfit.ident]
  · rcases hr with h | h | h <;> simp [h]
  · rcases hr with h' | h' | h' <;> rw [h'] at h <;> cases h
  · have : o.prior.strikes = 0 := by
      by_contra h; rcases hok.strikes h with h | h <;> rcases hr with h' | h' | h' <;> simp [h'] at h
    rw [this]; exact Nat.lt_of_le_of_lt (Nat.zero_le _) (l.strikes o.name)

theorem Offer.stands_offered {o : Offer} {e : Entry} (hk : o.kind ≠ .reclaim) (h : o.stands e = true) :
    e.state = .offered := by
  unfold Offer.stands at h
  split at h
  · rename_i h'; exact absurd h' hk
  · simpa using h

theorem Offer.stands_reclaim {o : Offer} {e : Entry} (hk : o.kind = .reclaim) (h : o.stands e = true) :
    e.state = .bound ∨ e.state = .held := by
  simpa [Offer.stands, hk] using h

theorem Offer.stands_coupledOnly {o : Offer} {e : Entry} (h : o.stands e = true) : e.state.coupledOnly = true := by
  by_cases hk : o.kind = .reclaim
  · obtain h | h := o.stands_reclaim hk h <;> rw [h] <;> rfl
  · rw [o.stands_offered hk h]; rfl

theorem EntryState.ne_vacant_of_coupledOnly {st : EntryState} (h : st.coupledOnly = true) : st ≠ .vacant := by
  rintro rfl; cases h

theorem DirChange.settleOffer (x : Exempt) {o : Offer} (ho : s.dir.offer = some o)
    (h : o.stands (s.entry o.name) = true) (r : ClaimResult) (st : Option Byte) :
    DirChange x s (s.settleOffer o r st) := by
  have hco := o.stands_coupledOnly h
  have hfree : ∀ hk : o.kind ≠ .reclaim, DirInv s → (s.entry o.name).owed = false := fun hk inv =>
    inv.not_owed (by simp [o.stands_offered hk h]) (by simp [o.stands_offered hk h])
  have hoff : ∀ k, o.kind = k → k ≠ .reclaim → (s.entry o.name).state = .offered := fun k hk hne =>
    o.stands_offered (hk ▸ hne) h
  unfold State.settleOffer; dsimp only
  split
  · exact .disputeEntry x _ (EntryState.ne_vacant_of_coupledOnly hco) (.inl hco)
  · split
    · exact .vacateOwed x _ s
    · exact .vacateOwed x _ s
    · rename_i hk
      have hs := hoff _ hk (by simp)
      refine .stableEntry _ _ (fun inv => .restored x inv ho hs) fun inv => ?_
      rw [(inv.offer o ho hs).free, hfree (by simp [hk]) inv]
    · exact .refl x s
  · split
    · rename_i hk
      exact .stableEntry _ _ (fun inv => .confirmed x inv (hoff _ hk (by simp)) (by split <;> simp) ..) fun _ => rfl
    · rename_i hk
      exact .stableEntry _ _ (fun inv => .confirmed x inv (hoff _ hk (by simp)) (by split <;> simp) ..) fun _ => rfl
    · rename_i hk
      exact .stableEntry _ _ (fun inv => .stamped x inv (o.stands_reclaim hk h) ..) fun _ => rfl
    · rename_i hk
      exact .stableEntry _ _ (fun inv => .confirmed x inv (hoff _ hk (by simp)) (.inr rfl) ..) fun _ => rfl

/-! ### Roll reports (R90, R91) -/

/-- Live fields written: no GEN, no alert (R74). -/
theorem DirChange.liveEntry {x : Exempt} {n : Name} (w : Word) (a b : Nat)
    (hs : (s.entry n).state = .bound ∨ (s.entry n).state = .held ∨ (s.entry n).state = .stale)
    (ha : a ≠ 0 → (s.entry n).state ≠ .stale) (hb : DirInv s → b ≠ 0 → (s.entry n).state = .stale)
    (hl : x ≠ .live → LiveInv s → a < s.roll.strikeLimit ∧ b ≤ s.roll.keepRounds ∧
      ((s.entry n).state = .stale → 1 ≤ b)) : DirChange x s (s.liveEntry n w a b) := by
  have he : ∀ m, (s.liveEntry n w a b).entry m =
      if n = m then { s.entry n with stamp := w, strikes := a, keep := b } else s.entry m := (s.entry_putEntry n · _)
  have d : OnlyDir s (s.liveEntry n w a b) := ⟨rfl, rfl, rfl, rfl, rfl, rfl, rfl, id, fun _ => id, id⟩
  refine .of_entries d (fun m => ?_) (.inl rfl) (fun inv m => ?_) fun _ _ m => ?_
  · rw [he m]; split
    · rename_i h; rw [← h]
    · rfl
  · rw [he m]; split
    · rename_i h; subst h
      have hok := inv.entries n
      refine .inr ⟨⟨fun h => ?_, hb inv, fun h => ?_, hok.owed, hok.conflict⟩, .inr ⟨?_, rfl⟩, ?_, .inl, fun hx _ => hl hx⟩
      · rcases hs with h' | h' | h' <;> simp [h'] at h
      · rcases hs with h' | h' | h'
        · exact .inl h'
        · exact .inr h'
        · exact absurd h' (ha h)
      · rcases hs with h | h | h <;> simp [h]
      · rcases hs with h | h | h <;> simp [h]
    · exact .inl rfl
  · rw [he m]; split
    · rename_i h; subst h; exact OwedKept.refl s n
    · exact OwedKept.refl s m

/-- The values a roll report carries keep to the limits (R126, R127). -/
def reportInLimits (strikeLimit keepRounds : Nat) : RollReport → Prop
  | .strike k => k < strikeLimit
  | .retentionStep k => 1 ≤ k ∧ k ≤ keepRounds
  | _ => True

theorem DirChange.takeRollReport {x : Exempt} (n : Name) (rep : RollReport)
    (hrep : x ≠ .live → LiveInv s → s.takesRollReports = true → rollReportFits rep (s.entry n).state = true →
      reportInLimits s.roll.strikeLimit s.roll.keepRounds rep) : DirChange x s (s.takeRollReport n rep) := by
  unfold State.takeRollReport; dsimp only
  split
  case isFalse => exact .refl x s
  case isTrue h =>
    obtain ⟨ht, hfits⟩ := h
    replace hrep := fun hx l => hrep hx l ht hfits
    have hkeep : DirInv s → (s.entry n).state ≠ .stale → (s.entry n).keep = 0 := fun inv h => by
      by_contra hk; exact h ((inv.entries n).keep hk)
    have hstrikes : DirInv s → (s.entry n).state = .stale → (s.entry n).strikes = 0 := fun inv h => by
      by_contra hk; have := (inv.entries n).strikes hk; simp [h] at this
    have howed : DirInv s → (s.entry n).state = .bound ∨ (s.entry n).state = .held ∨ (s.entry n).state = .stale →
        (s.entry n).owed = false := fun inv h => by
      apply inv.not_owed <;> rcases h with h | h | h <;> simp [h]
    cases rep with
    | answered st w =>
      have hs : (s.entry n).state = .bound ∨ (s.entry n).state = .held := by simpa [rollReportFits] using hfits
      dsimp only; split
      · refine .liveEntry w 0 _ (hs.imp_right .inl) (by simp) (fun inv => (inv.entries n).keep) fun _ l => ?_
        exact ⟨Nat.lt_of_le_of_lt (Nat.zero_le _) (l.strikes n), l.keep n, l.stale n⟩
      · exact .stableEntry n _ (fun inv => .stamped x inv hs ..) fun _ => rfl
    | strike k =>
      have hs : (s.entry n).state = .bound ∨ (s.entry n).state = .held := by simpa [rollReportFits] using hfits
      refine .liveEntry _ k _ (hs.imp_right .inl) (fun _ => ?_) (fun inv => (inv.entries n).keep) fun hx l => ?_
      · rcases hs with h | h <;> simp [h]
      · exact ⟨hrep hx l, l.keep n, l.stale n⟩
    | struckOut =>
      have hs : (s.entry n).state = .bound ∨ (s.entry n).state = .held := by simpa [rollReportFits] using hfits
      refine .stableEntry n _ (fun inv => ?_) fun inv => rfl
      have ho := howed inv (hs.imp_right .inl)
      refine ⟨⟨by simp, fun _ => rfl, by simp, by simp [ho], fun h => ?_⟩, .inr ⟨?_, rfl⟩, by simp,
        fun h => absurd h Bool.false_ne_true,
        fun _ hk l => ⟨Nat.lt_of_le_of_lt (Nat.zero_le _) (l.strikes n), Nat.le_refl _, fun _ => hk⟩⟩
      · have := (inv.entries n).conflict h; rcases hs with h | h <;> simp [h] at this
      · rcases hs with h | h <;> simp [h]
    | revived st w =>
      have hs : (s.entry n).state = .stale := by simpa [rollReportFits] using hfits
      refine .stableEntry n _ (fun inv => ?_) fun inv => rfl
      have ho := howed inv (.inr (.inr hs))
      refine ⟨⟨by simp, by simp, by simp, by simp [ho], fun h => ?_⟩, .inr ⟨by simp [hs], rfl⟩, by simp,
        fun _ => .inr (.inl ht),
        fun _ _ l => ⟨Nat.lt_of_le_of_lt (Nat.zero_le _) (l.strikes n), Nat.zero_le _, fun h => by cases h⟩⟩
      have := (inv.entries n).conflict h; simp [hs] at this
    | retentionStep k =>
      have hs : (s.entry n).state = .stale := by simpa [rollReportFits] using hfits
      by_cases hst : (s.entry n).strikes = 0
      · rw [hst]
        refine .liveEntry _ 0 k (.inr (.inr hs)) (by simp) (fun _ _ => hs) fun hx l => ?_
        exact ⟨Nat.lt_of_le_of_lt (Nat.zero_le _) (l.strikes n), (hrep hx l).2, fun _ => (hrep hx l).1⟩
      · refine .of_entries ⟨rfl, rfl, rfl, rfl, rfl, rfl, rfl, id, fun _ => id, id⟩ (fun m => ?_) (.inl rfl)
          (fun inv => absurd (hstrikes inv hs) hst) fun _ inv => absurd (hstrikes inv hs) hst
        have he := s.entry_putEntry n m { s.entry n with strikes := (s.entry n).strikes, keep := k }
        refine (congrArg (fun e : Entry => genEven e.gen) he).trans ?_
        split
        · rename_i h; rw [← h]
        · rfl
    | dispute =>
      have hs : (s.entry n).state ≠ .vacant := by
        simp only [rollReportFits, decide_eq_true_eq] at hfits
        rcases hfits with h | h | h <;> simp [h]
      exact .disputeEntry x n hs (.inr ht)
    | retentionExpired => exact .depart x n (by simpa [rollReportFits] using hfits)

/-! ### MOVE reports (R89) -/

/-- The offer of a MOVE's target, to an identity no other entry holds. -/
theorem OfferFits.move {n : Name} {i : Identity} (hi : ∀ m, m ≠ n → (s.entry m).state ≠ .vacant → (s.entry m).ident ≠ i)
    (c r d : Byte) (o : Bool) : OfferFits .owed s n
      { state := .offered, ident := i, cls := c, role := r, devstat := d, outside := o } i .move (vacantEntry false) := by
  refine ⟨?_, rfl, rfl, hi, fun h => absurd rfl h, .vacantEntry false, .inl rfl, .inl rfl, rfl, fun l =>
    ⟨rfl, rfl, Nat.zero_le _, fun h => absurd rfl h, (by simp), fun h => by cases h⟩⟩
  constructor <;> simp

/-! ### Line clear and loss of the coupling (R94, R95) -/

/-- What a change of many entries touches: the entries, and ALERT where one changed (R73, R94, R95). -/
theorem State.stableAll_eq (f : Name → Entry → Option Entry) (s : State) : s.stableAll f = { s with
    dir := { s.dir with entries := (s.stableAll f).dir.entries }
    port := { s.port with
      alert := if allNames.any fun n => (f n (s.entry n)).isSome then s.port.alert ||| 2#7 else s.port.alert } } := by
  unfold State.stableAll
  generalize (allNames.any fun n => (f n (s.entry n)).isSome) = b
  cases b <;> simp only [State.raise_eq, Alert.mask_directory, if_true, if_false, Bool.false_eq_true]

theorem OnlyDir.stableAll (f : Name → Entry → Option Entry) (s : State) : OnlyDir s (s.stableAll f) := by
  refine ⟨by simp, by simp, by simp, by simp, by simp, by simp, ?_, ?_, by simp, by simp⟩
  · rw [State.stableAll_eq]
  · rw [State.stableAll_eq]; exact id

/-- A BOUND or HELD entry that goes STALE fits. -/
theorem EntryFits.staleEntry (x : Exempt) {n : Name} (inv : DirInv s)
    (hs : (s.entry n).state = .bound ∨ (s.entry n).state = .held) :
    EntryFits x s n (staleEntry s.roll.keepRounds (s.entry n)) := by
  have hok := inv.entries n
  refine ⟨⟨(by simp [Machine.staleEntry]), fun _ => rfl, by simp [Machine.staleEntry], fun h => ?_, fun h => ?_⟩, .inr ⟨?_, rfl⟩,
    by simp [Machine.staleEntry], fun h => absurd h Bool.false_ne_true,
    fun _ hk l => ⟨Nat.lt_of_le_of_lt (Nat.zero_le _) (l.strikes n), Nat.le_refl _, fun _ => hk⟩⟩
  · have := hok.owed h; rcases hs with h | h <;> simp [h] at this
  · have := hok.conflict h; rcases hs with h | h <;> simp [h] at this
  · rcases hs with h | h <;> simp [h]

/-- What the line-clear-sent notice makes of an entry fits, owes no release, and is in none of the states of a
coupling. -/
theorem lineClearEntry_some (x : Exempt) {n : Name} {e : Entry} (inv : DirInv s)
    (h : lineClearEntry s.roll.keepRounds s.dir.ackMask (s.entry n) = some e) :
    EntryFits x s n e ∧ e.owed = false ∧ e.state.coupledOnly = false := by
  unfold lineClearEntry at h
  split at h
  · rename_i hs
    obtain rfl := Option.some.inj h
    exact ⟨.staleEntry x inv (.inl hs), inv.not_owed (by simp [hs]) (by simp [hs]), rfl⟩
  · rename_i hs
    obtain rfl := Option.some.inj h
    exact ⟨.staleEntry x inv (.inr hs), inv.not_owed (by simp [hs]) (by simp [hs]), rfl⟩
  · rename_i hs
    obtain rfl := Option.some.inj h
    refine ⟨.resolvedDispute x _ inv hs, resolvedDispute_owed .., ?_⟩
    unfold resolvedDispute; split <;> rfl
  · rename_i hs
    split at h
    · obtain rfl := Option.some.inj h
      exact ⟨.notOwed x inv hs, rfl, congrArg EntryState.coupledOnly hs⟩
    · cases h
  · cases h

theorem lineClearEntry_none {n : Name} (inv : DirInv s)
    (h : lineClearEntry s.roll.keepRounds s.dir.ackMask (s.entry n) = none) :
    (s.entry n).owed = false ∧ ((s.entry n).state.coupledOnly = true → (s.entry n).state = .offered) := by
  unfold lineClearEntry at h
  split at h
  · cases h
  · cases h
  · cases h
  · rename_i hs
    split at h
    · cases h
    · rename_i ho; exact ⟨by simpa using ho, by simp [hs, EntryState.coupledOnly]⟩
  · rename_i h1 h2 h3 h4
    refine ⟨inv.not_owed h4 h3, fun h => ?_⟩
    cases hs : (s.entry n).state <;> simp_all [EntryState.coupledOnly]

/-- After a line clear no entry owes a release (R95). -/
theorem State.directoryLineClear_owed (inv : DirInv s) (n : Name) : (s.directoryLineClear.entry n).owed = false := by
  rw [State.directoryLineClear, State.entry_stableAll]
  split
  · rename_i e h; exact (lineClearEntry_some .nothing inv h).2.1
  · rename_i h; exact (lineClearEntry_none inv h).1

/-- The release list is given with the change: whole, or emptied where the line clear itself completes (R46). -/
theorem DirChange.directoryLineClear {x : Exempt} (d : OnlyDir s t) (he : t.dir = s.directoryLineClear.dir)
    (hr : x ≠ .owed → t.line.releases = []) : DirChange x s t := by
  have hentry : ∀ n, t.entry n = s.directoryLineClear.entry n := State.entry_congr (congrArg Directory.entries he)
  refine .of_entries d (fun n => ?_) (.inl ?_) (fun inv n => ?_) fun hx inv n => ?_
  · rw [hentry, State.directoryLineClear, State.entry_stableAll]; split
    · exact genEven_genAfter _
    · rfl
  · rw [he, State.directoryLineClear, State.stableAll_eq]
  · rw [hentry, State.directoryLineClear, State.entry_stableAll]; split
    · rename_i e h; exact .inr ((lineClearEntry_some x inv h).1.withGen _)
    · exact .inl rfl
  · rw [hentry, State.directoryLineClear_owed inv, hr hx]; simp

/-- What the coupling-lost notice makes of an entry fits, owes no release, and is in none of the states of a coupling
(R94). -/
theorem couplingLostEntry_some (x : Exempt) {n : Name} {e : Entry} (inv : DirInv s)
    (h : couplingLostEntry s.roll.keepRounds s.dir.ackMask s.dir.offer n (s.entry n) = some e) :
    EntryFits x s n e ∧ e.owed = false ∧ e.state.coupledOnly = false := by
  unfold couplingLostEntry at h
  split at h
  · rename_i hs
    obtain rfl := Option.some.inj h
    unfold restoredOffer
    split
    · rename_i o ho
      split
      · rename_i hn; subst hn
        have hfit := inv.offer o ho hs
        refine ⟨.restored x inv ho hs, hfit.free, ?_⟩
        rcases hfit.restores with h | h | h <;> rw [h] <;> rfl
      · exact ⟨.vacantEntry x n false, rfl, rfl⟩
    · exact ⟨.vacantEntry x n false, rfl, rfl⟩
  · exact lineClearEntry_some x inv h

theorem couplingLostEntry_none {n : Name} (inv : DirInv s)
    (h : couplingLostEntry s.roll.keepRounds s.dir.ackMask s.dir.offer n (s.entry n) = none) :
    (s.entry n).owed = false ∧ (s.entry n).state.coupledOnly = false := by
  unfold couplingLostEntry at h
  split at h
  · cases h
  · rename_i hs
    obtain ⟨h1, h2⟩ := lineClearEntry_none inv h
    exact ⟨h1, by rw [← Bool.not_eq_true]; exact fun hc => hs (h2 hc)⟩

theorem State.entry_directoryLoss (s : State) (n : Name) : s.directoryLoss.entry n =
    match couplingLostEntry s.roll.keepRounds s.dir.ackMask s.dir.offer n (s.entry n) with
    | some e => { e with gen := genAfter (s.entry n).gen }
    | none => s.entry n :=
  s.entry_stableAll (fun n e => couplingLostEntry s.roll.keepRounds s.dir.ackMask s.dir.offer n e) n

/-- After the coupling-lost notice no entry owes a release or is in a state of a coupling (R94). -/
theorem State.directoryLoss_quiet (inv : DirInv s) (n : Name) :
    (s.directoryLoss.entry n).owed = false ∧ (s.directoryLoss.entry n).state.coupledOnly = false := by
  rw [State.entry_directoryLoss]
  split
  · rename_i e h; exact (couplingLostEntry_some .nothing inv h).2
  · rename_i h; exact couplingLostEntry_none inv h

theorem State.mem_directoryLoss_releases (inv : DirInv s) (n : Name) :
    n ∈ s.directoryLoss.line.releases ↔ n ∈ s.line.releases ∧ (s.entry n).owed = false := by
  have h : (s.directoryLoss.entry n).owed = false := (State.directoryLoss_quiet inv n).1
  have hr : s.directoryLoss.line.releases = s.line.releases.filter fun n =>
      !((s.entry n).owed && !(s.directoryLoss.entry n).owed) := by
    simp only [State.directoryLoss, State.clearOffer_line, State.stableAll_line]; rfl
  rw [hr, List.mem_filter, h]; simp

theorem DirChange.directoryLoss (x : Exempt) (s : State) : DirChange x s s.directoryLoss := by
  have d := OnlyDir.stableAll (fun n e => couplingLostEntry s.roll.keepRounds s.dir.ackMask s.dir.offer n e) s
  have d' : OnlyDir s s.directoryLoss := ⟨d.cm, d.feed, d.walker, d.roll, d.req, ?_, d.recGen,
    fun h => absurd h Bool.false_ne_true, d.given, fun h => ?_⟩
  · refine .of_entries d' (fun n => ?_) (.inr rfl) (fun inv n => ?_) fun _ inv n => ?_
    · rw [State.entry_directoryLoss]; split
      · exact genEven_genAfter _
      · rfl
    · rw [State.entry_directoryLoss]; split
      · rename_i e h; exact .inr ((couplingLostEntry_some x inv h).1.withGen _)
      · exact .inl rfl
    · rw [(State.directoryLoss_quiet inv n).1, State.mem_directoryLoss_releases inv]
      exact ⟨fun h => absurd h Bool.false_ne_true, fun h _ => h⟩
  · simp only [State.directoryLoss, State.clearOffer_line, State.stableAll_line]
  · simp only [State.directoryLoss, State.clearOffer_line, State.stableAll_line]
    exact h.filter _

theorem State.stableAll_take (f : Name → Entry → Option Entry) (c : Instr) (s : State) :
    (s.take c).stableAll f = (s.stableAll f).take c := by
  unfold State.stableAll
  have hs : ∀ n, (s.take c).entry n = s.entry n := fun _ => rfl
  simp only [hs]
  generalize (allNames.any fun n => (f n (s.entry n)).isSome) = b
  generalize Vector.ofFn _ = v
  cases b <;> rfl

theorem State.directoryLoss_take (c : Instr) (s : State) : (s.take c).directoryLoss = s.directoryLoss.take c := by
  have hs : ∀ n, (s.take c).entry n = s.entry n := fun _ => rfl
  simp only [State.directoryLoss, State.stableAll_take, State.take_roll, State.take_dir, hs]
  generalize s.stableAll _ = u
  rfl

/-- The directory's invariant reads the directory alone. -/
theorem DirInv.of_dir (inv : DirInv s) (he : t.dir.entries = s.dir.entries) (ho : t.dir.offer = s.dir.offer) :
    DirInv t := by
  have h : ∀ n, t.entry n = s.entry n := State.entry_congr he
  refine ⟨fun n => ?_, fun n m hnm => ?_, fun o => ?_, fun o hs hst => ?_⟩
  · rw [h]; exact inv.entries n
  · rw [h, h]; exact inv.unique n m hnm
  · rw [ho]; exact inv.prior o
  · rw [ho] at hs
    rw [h] at hst
    obtain ⟨h1, h2, h3, h4⟩ := inv.offer o hs hst
    exact ⟨by rw [h]; exact h1, h2, h3, h4⟩

/-- The notice taken with it no longer waits. -/
theorem DirChange.directoryCouplingLost (x : Exempt) (r : LossReason) (s : State) :
    DirChange x s (s.take (.directoryCouplingLost r)).directoryLoss := by
  have h := DirChange.directoryLoss x s
  rw [State.directoryLoss_take]
  refine ⟨⟨h.frame.cm, h.frame.feed, h.frame.walker, h.frame.roll, h.frame.req, h.frame.line, h.frame.recGen,
    fun c hc hn => ?_, h.frame.sorted⟩, h.gen, fun inv => ?_, fun inv _ => ?_, fun hx inv hs hk l => ?_, h.owed⟩
  · exact (List.mem_erase_of_ne (hn r)).2 (h.frame.given c hc hn)
  · exact (h.inv inv).of_dir rfl rfl
  · refine ⟨fun n hn => ?_, fun h => absurd rfl h, fun h => absurd h Bool.false_ne_true⟩
    exact absurd (hn.symm.trans (State.directoryLoss_quiet inv n).2) Bool.true_eq_false.mp
  · obtain ⟨h1, h2, h3, h4, h5, h6, h7⟩ := h.live hx inv hs hk l
    exact ⟨h1, h2, h3, h4, h5, h6, h7⟩

end Sys2Proof.Machine
end

section
/-! PROOFS. Every event but the hard reset is a chain of changes, each to one block of the part. What a change of a block
has to meet is said once here, and so is what a chain of them keeps: the invariants of the directory, the line side and
the request board. -/

namespace Sys2Proof.Machine

variable {s t u : State} {x : Exempt}

/-! ### One change -/

/-- What a block must have done before its coupling-lost notice is taken. The directory unit's own notice comes with
`DirChange.directoryCouplingLost`. -/
def takenIdle (s : State) : Instr → Prop
  | .feedCouplingLost _ => s.feed.logicOn = false ∧ s.feed.capture = none
  | .lineCouplingLost _ => s.line.active = false ∧ s.line.serving = false
  | .walkerCouplingLost _ => s.walker.state = .idle
  | .rollCouplingLost _ => s.roll.timer = none
  | .directoryCouplingLost _ => False
  | _ => True

/-- The coupling-lost notices of a reason to the four blocks that stand idle outside DISCOVERING and SERVING. -/
def lossToLineSide (l : List Instr) (r : LossReason) : Prop :=
  .lineCouplingLost r ∈ l ∧ .walkerCouplingLost r ∈ l ∧ .directoryCouplingLost r ∈ l ∧ .rollCouplingLost r ∈ l

/-- The coupling monitor goes on as `c` and gives `l`, the directory unit's mark being `b`: where the coupling is lost, the
blocks are told, the feed supervisor unless it has switched off already. -/
structure MonitorFits (x : Exempt) (s : State) (c : CouplingMonitor) (b : Bool) (l : List Instr) : Prop where
  lost : x ≠ .coupling → ((s.cm.state.lineOn = true → c.state.lineOn = true) ∧ (s.cm.state = .serving → c.state = .serving)) ∨
    ∃ r, lossToLineSide l r
  feeds : x ≠ .coupling → (s.cm.state.coupled = true → c.state.coupled = true) ∨ (∃ r, .feedCouplingLost r ∈ l) ∨
    (s.feed.logicOn = false ∧ s.feed.capture = none)
  mark : b = true → s.dir.serving = true ∨ c.state = .serving

/-- The line unit goes on as `l`. -/
structure LineFits (x : Exempt) (s : State) (l : LineUnit) : Prop where
  releases : l.releases = s.line.releases
  inv : LineInv s → LineInv { s with line := l }
  active : l.active = true → s.line.active = true ∨ s.cm.state.lineOn = true
  serving : l.serving = true → s.line.serving = true ∨ s.cm.state = .serving
  listening : x ≠ .listening → ∀ c, l.flight = .listening .rollCaller c → s.line.flight = .listening .rollCaller c
  sending : ∀ c, l.flight = .sending .rollCaller c → s.line.flight = .sending .rollCaller c ∨ s.roll.hand ≠ none

/-- With the roll period timer stopped no round is in progress and no roll is in hand (R131, R132). -/
def RollCaller.resting (r : RollCaller) : Prop := r.timer = none → r.inProgress = false ∧ r.hand = none

/-- A round in progress has a due name (R122 to R124). -/
def RollCaller.busy (r : RollCaller) : Prop := r.inProgress = true → r.due ≠ []

/-- The roll caller goes on as `r`, its limits as they are. -/
structure RollFits (x : Exempt) (s : State) (r : RollCaller) : Prop where
  strikeLimit : r.strikeLimit = s.roll.strikeLimit
  keepRounds : r.keepRounds = s.roll.keepRounds
  inv : RollInv s → RollInv { s with roll := r }
  busy : x ≠ .abandoned → RollInv s → s.roll.busy → r.busy
  timer : r.timer ≠ none → s.roll.timer ≠ none ∨ s.cm.state = .serving
  resting : RollInv s → s.roll.resting → r.resting
  hand : x ≠ .abandoned → ∀ c, s.line.flight = .sending .rollCaller c → r.hand = none → s.roll.hand = none

/-- New limits in force, and the live fields lowered to them (R120, R130). -/
structure Lowered (s t : State) : Prop where
  cm : t.cm = s.cm
  feed : t.feed = s.feed
  line : t.line = s.line
  walker : t.walker = s.walker
  roll : t.roll = { s.roll with
    rollMs := t.roll.rollMs, strikeLimit := t.roll.strikeLimit, keepRounds := t.roll.keepRounds }
  req : t.req = s.req
  port : t.port = s.port
  given : t.given = s.given
  serving : t.dir.serving = s.dir.serving
  entry : ∀ n, t.entry n = (s.entry n).lowered t.roll.strikeLimit t.roll.keepRounds
  offer : t.dir.offer = s.dir.offer.map (Offer.lowered t.roll.keepRounds)
  strikeLimit : 1 ≤ t.roll.strikeLimit
  keepRounds : 1 ≤ t.roll.keepRounds

/-- A change of one block, with what the invariants ask of it. `x` names the one clause it need not meet. -/
inductive Change (x : Exempt) (s : State) : State → Prop
  | port (p : ExchangePort) (k : Nat) (q : List Instr) (h : genEven p.recGen = genEven s.port.recGen) :
      Change x s { s with port := p, callRetries := k, pending := q }
  | give (l : List Instr) : Change x s (s.give l)
  | take (c : Instr) (h : takenIdle s c) : Change x s (s.take c)
  | monitor (c : CouplingMonitor) (b : Bool) (m : AckMask) (l : List Instr) (h : MonitorFits x s c b l) :
      Change x s { s with cm := c, dir := { s.dir with serving := b, ackMask := m }, given := s.given ++ l }
  | feed (f : FeedSupervisor) (h : f.logicOn = true ∨ f.capture ≠ none →
      s.feed.logicOn = true ∨ s.feed.capture ≠ none ∨ s.cm.state.coupled = true) : Change x s { s with feed := f }
  | line (l : LineUnit) (h : LineFits x s l) : Change x s { s with line := l }
  | walker (w : Walker) (inv : WalkerInv s → WalkerInv { s with walker := w })
      (idle : w.state ≠ .idle → s.walker.state ≠ .idle ∨ s.cm.state.lineOn = true) : Change x s { s with walker := w }
  | roll (r : RollCaller) (h : RollFits x s r) : Change x s { s with roll := r }
  | req (r : RequestUnit) (inv : BoardInv s → BoardInv { s with req := r }) : Change x s { s with req := r }
  | dir (t : State) (h : DirChange x s t) : Change x s t
  | limits (t : State) (h : Lowered s t) : Change x s t

/-! ### Invariants read their own blocks -/

theorem LineInv.of_line (inv : LineInv s) (h : t.line = s.line) : LineInv t := by
  obtain ⟨h1, h2, h3, h4, h5, h6, h7⟩ := inv
  rw [← h] at h1 h2 h3 h4 h5 h6 h7
  exact ⟨h1, h2, h3, h4, h5, h6, h7⟩

theorem WalkerInv.of_walker (inv : WalkerInv s) (h : t.walker = s.walker) : WalkerInv t := by
  obtain ⟨h1, h2, h3, h4, h5, h6⟩ := inv
  rw [← h] at h1 h2 h3 h4 h5 h6
  exact ⟨h1, h2, h3, h4, h5, h6⟩

theorem RollInv.of_roll (inv : RollInv s) (h : t.roll = s.roll) : RollInv t := by
  obtain ⟨h1, h2, h3⟩ := inv
  rw [← h] at h1 h2 h3
  exact ⟨h1, h2, h3⟩

theorem BoardInv.of_req (inv : BoardInv s) (h : t.req = s.req) : BoardInv t := by
  obtain ⟨h1, h2, h3, h4, h5, h6⟩ := inv
  have hs : ∀ k, s.slot k = t.slot k := State.slot_congr (by rw [h])
  simp only [hs, ← h] at h1 h2 h3 h4 h5 h6
  exact ⟨h1, h2, h3, h4, h5, h6⟩

theorem GenInv.of_eq (inv : GenInv s) (hr : genEven t.port.recGen = genEven s.port.recGen)
    (he : ∀ n, genEven (t.entry n).gen = genEven (s.entry n).gen) : GenInv t :=
  ⟨hr.trans inv.record, fun n => (he n).trans (inv.entries n)⟩

theorem LiveInv.of_eq (inv : LiveInv s) (he : t.dir.entries = s.dir.entries) (ho : t.dir.offer = s.dir.offer)
    (hs : t.roll.strikeLimit = s.roll.strikeLimit) (hk : t.roll.keepRounds = s.roll.keepRounds) : LiveInv t := by
  have h : ∀ n, t.entry n = s.entry n := State.entry_congr he
  obtain ⟨h1, h2, h3, h4, h5, h6, h7⟩ := inv
  constructor <;> simp only [h, ho, hs, hk] <;> assumption

theorem OwedKept.of_eq (he : t.dir.entries = s.dir.entries) (hr : t.line.releases = s.line.releases) :
    OwedKept s t := by
  have h : ∀ n, t.entry n = s.entry n := State.entry_congr he
  intro n
  rw [h, hr]
  exact OwedKept.refl s n

/-! ### What the lowering of the live fields keeps (R120, R130) -/

theorem EntryOk.lowered {e : Entry} (h : EntryOk e) (a b : Nat) : EntryOk (e.lowered a b) := by
  refine ⟨h.vacant, fun hk => h.keep ?_, fun hs => h.strikes ?_, h.owed, h.conflict⟩
  · intro h0; simp [Entry.lowered, h0] at hk
  · intro h0; simp [Entry.lowered, h0] at hs

theorem Offer.lowered_eq (k : Nat) (o : Offer) : o.lowered k =
    { o with prior := { o.prior with keep := if o.kind = .ret then min o.prior.keep k else o.prior.keep } } := by
  unfold Offer.lowered
  split
  · rename_i h; rw [if_pos h]
  · rename_i h; rw [if_neg h]

namespace Lowered

variable (h : Lowered s t)
include h

theorem offer_some {o : Offer} (ho : t.dir.offer = some o) : ∃ p, s.dir.offer = some p ∧
    o = { p with prior := { p.prior with
      keep := if p.kind = .ret then min p.prior.keep t.roll.keepRounds else p.prior.keep } } := by
  rw [h.offer] at ho
  obtain ⟨p, hp, rfl⟩ := Option.map_eq_some_iff.1 ho
  exact ⟨p, hp, p.lowered_eq _⟩

theorem dirInv (inv : DirInv s) : DirInv t := by
  refine ⟨fun n => ?_, fun n m => ?_, fun o ho => ?_, fun o ho hst => ?_⟩
  · rw [h.entry]; exact (inv.entries n).lowered _ _
  · rw [h.entry, h.entry]; exact inv.unique n m
  · obtain ⟨p, hp, rfl⟩ := h.offer_some ho
    have hok := inv.prior p hp
    refine ⟨hok.vacant, fun hk => hok.keep ?_, hok.strikes, hok.owed, hok.conflict⟩
    intro h0; simp [h0] at hk
  · obtain ⟨p, hp, rfl⟩ := h.offer_some ho
    rw [h.entry] at hst
    obtain ⟨h1, h2, h3, h4⟩ := inv.offer p hp hst
    exact ⟨by rw [h.entry]; exact h1, h2, h3, h4⟩

theorem liveInv (inv : LiveInv s) : LiveInv t := by
  have h1 := h.strikeLimit
  have h2 := h.keepRounds
  constructor
  case strikes => intro n; rw [h.entry]; simp only [Entry.lowered]; omega
  case keep => intro n; rw [h.entry]; simp only [Entry.lowered]; omega
  case stale =>
    intro n hst
    rw [h.entry] at hst ⊢
    have := inv.stale n hst
    simp only [Entry.lowered]; omega
  all_goals
    intro o ho
    obtain ⟨p, hp, rfl⟩ := h.offer_some ho
    have hkind := inv.priorKind p hp
    have hkeep := inv.priorKeep p hp
    have hstale := inv.priorStale p hp
  case priorKeep =>
    dsimp only; split
    · omega
    · rename_i hk
      have : p.prior.keep = 0 := by by_contra h0; exact hk (hkind h0)
      omega
  case priorKind =>
    intro hk
    by_contra h0
    have h0 : p.kind ≠ .ret := h0
    rw [if_neg h0] at hk
    exact h0 (hkind hk)
  case priorStrikes => exact inv.priorStrikes p hp
  case priorStale =>
    intro hst
    have := hstale hst
    dsimp only; split <;> omega

end Lowered

/-! ### What one change keeps -/

theorem Change.gen (h : Change x s t) (inv : GenInv s) : GenInv t := by
  cases h with
  | port p k q h => exact ⟨h.trans inv.record, inv.entries⟩
  | dir t h => exact inv.of_eq (congrArg genEven h.frame.recGen) h.gen
  | limits t h => exact inv.of_eq (by rw [h.port]) fun n => by rw [h.entry]; rfl
  | _ => exact inv.of_eq rfl fun _ => rfl

theorem Change.dirInv (h : Change x s t) (inv : DirInv s) : DirInv t := by
  cases h with
  | dir t h => exact h.inv inv
  | limits t h => exact h.dirInv inv
  | _ => exact inv.of_dir rfl rfl

/-- The limits in force let live fields stand. -/
def State.limitsStand (s : State) : Prop := 1 ≤ s.roll.strikeLimit ∧ 1 ≤ s.roll.keepRounds

theorem Change.live (h : Change x s t) (hx : x ≠ .live) (inv : DirInv s) (hl : s.limitsStand) (l : LiveInv s) :
    t.limitsStand ∧ LiveInv t := by
  cases h with
  | dir t h => exact ⟨by unfold State.limitsStand; rw [h.frame.roll]; exact hl, h.live hx inv hl.1 hl.2 l⟩
  | limits t h => exact ⟨⟨h.strikeLimit, h.keepRounds⟩, h.liveInv l⟩
  | roll r h =>
    have hl' : 1 ≤ r.strikeLimit ∧ 1 ≤ r.keepRounds := by rw [h.strikeLimit, h.keepRounds]; exact hl
    exact ⟨hl', l.of_eq rfl rfl h.strikeLimit h.keepRounds⟩
  | _ => exact ⟨hl, l.of_eq rfl rfl rfl rfl⟩

theorem Change.owed (h : Change x s t) (hx : x ≠ .owed) (inv : DirInv s) : OwedKept s t := by
  cases h with
  | dir t h => exact h.owed hx inv
  | line l h => exact .of_eq rfl h.releases
  | limits t h =>
    intro n
    rw [h.entry, h.line]
    exact OwedKept.refl s n
  | _ => exact .of_eq rfl rfl

/-- Where the coupling monitor goes on, a coupling that stood stands on, or its loss is told (R12). -/
theorem MonitorFits.lineOn {c : CouplingMonitor} {b : Bool} {l : List Instr} (h : MonitorFits x s c b l)
    (hx : x ≠ .coupling) {f : LossReason → Instr} (hf : ∀ r, lossToLineSide l r → f r ∈ l)
    (hs : s.cm.state.lineOn = true ∨ ∃ r, f r ∈ s.given) : c.state.lineOn = true ∨ ∃ r, f r ∈ s.given ++ l := by
  obtain hs | ⟨r, hr⟩ := hs
  · obtain ⟨hl, -⟩ | ⟨r, hr⟩ := h.lost hx
    · exact .inl (hl hs)
    · exact .inr ⟨r, List.mem_append_right _ (hf r hr)⟩
  · exact .inr ⟨r, List.mem_append_left _ hr⟩

theorem MonitorFits.serving {c : CouplingMonitor} {b : Bool} {l : List Instr} (h : MonitorFits x s c b l)
    (hx : x ≠ .coupling) {f : LossReason → Instr} (hf : ∀ r, lossToLineSide l r → f r ∈ l)
    (hs : s.cm.state = .serving ∨ ∃ r, f r ∈ s.given) : c.state = .serving ∨ ∃ r, f r ∈ s.given ++ l := by
  obtain hs | ⟨r, hr⟩ := hs
  · obtain ⟨-, hl⟩ | ⟨r, hr⟩ := h.lost hx
    · exact .inl (hl hs)
    · exact .inr ⟨r, List.mem_append_right _ (hf r hr)⟩
  · exact .inr ⟨r, List.mem_append_left _ hr⟩

theorem QuietInv.of_eq (q : QuietInv s) (he : t.dir.entries = s.dir.entries) (ho : t.dir.offer = s.dir.offer)
    (hd : t.dir.serving = s.dir.serving) (hc : t.cm = s.cm)
    (hg : ∀ r, Instr.directoryCouplingLost r ∈ s.given → Instr.directoryCouplingLost r ∈ t.given) : QuietInv t := by
  have h : ∀ n, t.entry n = s.entry n := State.entry_congr he
  refine ⟨fun n hn => ?_, fun hn => ?_, fun hn => ?_⟩
  · rw [h] at hn; rw [hc]; exact (q.entries n hn).imp_right fun ⟨r, hr⟩ => ⟨r, hg r hr⟩
  · rw [ho] at hn; rw [hc]; exact (q.offer hn).imp_right fun ⟨r, hr⟩ => ⟨r, hg r hr⟩
  · rw [hd] at hn; rw [hc]; exact (q.reports hn).imp_right fun ⟨r, hr⟩ => ⟨r, hg r hr⟩

theorem Change.quiet (h : Change x s t) (hx : x ≠ .coupling) (inv : DirInv s) (q : QuietInv s) : QuietInv t := by
  cases h with
  | dir t h => exact h.quiet inv q
  | limits t h =>
    refine ⟨fun n hn => ?_, fun hn => ?_, fun hn => ?_⟩ <;> rw [h.cm, h.given]
    · rw [h.entry] at hn; exact q.entries n hn
    · exact q.offer fun h0 => hn (by rw [h.offer, h0]; rfl)
    · rw [h.serving] at hn; exact q.reports hn
  | give l => exact q.of_eq rfl rfl rfl rfl fun r hr => List.mem_append_left _ hr
  | take c h =>
    refine q.of_eq rfl rfl rfl rfl fun r hr => (List.mem_erase_of_ne ?_).2 hr
    rintro rfl; exact h
  | monitor c b m l h =>
    have hf : ∀ r, lossToLineSide l r → Instr.directoryCouplingLost r ∈ l := fun r hr => hr.2.2.1
    refine ⟨fun n hn => h.lineOn hx hf (q.entries n hn), fun hn => h.lineOn hx hf (q.offer hn), fun hb => ?_⟩
    obtain hb | hb := h.mark hb
    · exact h.serving hx hf (q.reports hb)
    · exact .inl hb
  | _ => exact q.of_eq rfl rfl rfl rfl fun _ => id

theorem Change.lineInv (h : Change x s t) (inv : LineInv s) : LineInv t := by
  cases h with
  | line l h => exact h.inv inv
  | dir t h =>
    obtain ⟨h1, h2, h3, h4, h5, h6, h7⟩ := inv
    have hl := h.frame.line
    refine ⟨?_, ?_, ?_, ?_, ?_, h.frame.sorted h6, ?_⟩ <;> rw [hl] <;> assumption
  | limits t h => exact inv.of_line h.line
  | _ => exact inv.of_line rfl

theorem Change.walkerInv (h : Change x s t) (inv : WalkerInv s) : WalkerInv t := by
  cases h with
  | walker w hw _ => exact hw inv
  | dir t h => exact inv.of_walker h.frame.walker
  | limits t h => exact inv.of_walker h.walker
  | _ => exact inv.of_walker rfl

theorem Change.rollInv (h : Change x s t) (inv : RollInv s) : RollInv t := by
  cases h with
  | roll r h => exact h.inv inv
  | dir t h => exact inv.of_roll h.frame.roll
  | limits t h => refine ⟨?_, ?_, ?_⟩ <;> rw [h.roll] <;> [exact inv.due; exact inv.round; exact inv.owed]
  | _ => exact inv.of_roll rfl

theorem Change.boardInv (h : Change x s t) (inv : BoardInv s) : BoardInv t := by
  cases h with
  | req r h => exact h inv
  | dir t h => exact inv.of_req h.frame.req
  | limits t h => exact inv.of_req h.req
  | _ => exact inv.of_req rfl

theorem Change.busy (h : Change x s t) (hx : x ≠ .abandoned) (inv : RollInv s) (hb : s.roll.busy) : t.roll.busy := by
  cases h with
  | roll r h => exact h.busy hx inv hb
  | dir t h => rw [h.frame.roll]; exact hb
  | limits t h => rw [h.roll]; exact hb
  | _ => exact hb

theorem Change.listening (h : Change x s t) (hx : x ≠ .listening) {c : Call}
    (hl : t.line.flight = .listening .rollCaller c) : s.line.flight = .listening .rollCaller c := by
  cases h with
  | line l h => exact h.listening hx c hl
  | dir t h => rw [h.frame.line] at hl; exact hl
  | limits t h => rw [h.line] at hl; exact hl
  | _ => exact hl

theorem Change.sending (h : Change x s t) (hx : x ≠ .abandoned) {c : Call}
    (hl : t.line.flight = .sending .rollCaller c) (hn : t.roll.hand = none) :
    s.line.flight = .sending .rollCaller c ∧ s.roll.hand = none := by
  cases h with
  | line l h => exact ⟨(h.sending c hl).resolve_right fun h' => h' hn, hn⟩
  | roll r h => exact ⟨hl, h.hand hx c hl hn⟩
  | dir t h => rw [h.frame.line] at hl; rw [h.frame.roll] at hn; exact ⟨hl, hn⟩
  | limits t h => rw [h.line] at hl; rw [h.roll] at hn; exact ⟨hl, hn⟩
  | _ => exact ⟨hl, hn⟩

/-- `IdleInv` reads these blocks, and of the notices the coupling-lost notices that wait. -/
theorem IdleInv.of_eq (i : IdleInv s) (hf : t.feed = s.feed) (hc : t.cm = s.cm) (hl : t.line.active = s.line.active)
    (hs : t.line.serving = s.line.serving) (hw : t.walker = s.walker) (ht : t.roll.timer = s.roll.timer)
    (hp : t.roll.inProgress = s.roll.inProgress) (hh : t.roll.hand = s.roll.hand)
    (hg : ∀ c ∈ s.given, (∀ r, c ≠ .directoryCouplingLost r) → c ∈ t.given) : IdleInv t := by
  constructor <;> simp only [hf, hc, hl, hs, hw, ht, hp, hh]
  · exact fun h => (i.logic h).imp_right fun ⟨r, hr⟩ => ⟨r, hg _ hr (by simp)⟩
  · exact fun h => (i.capture h).imp_right fun ⟨r, hr⟩ => ⟨r, hg _ hr (by simp)⟩
  · exact fun h => (i.line h).imp_right fun ⟨r, hr⟩ => ⟨r, hg _ hr (by simp)⟩
  · exact fun h => (i.serving h).imp_right fun ⟨r, hr⟩ => ⟨r, hg _ hr (by simp)⟩
  · exact fun h => (i.walker h).imp_right fun ⟨r, hr⟩ => ⟨r, hg _ hr (by simp)⟩
  · exact fun h => (i.timer h).imp_right fun ⟨r, hr⟩ => ⟨r, hg _ hr (by simp)⟩
  · exact i.round
  · exact i.hand

theorem Change.idle (h : Change x s t) (hx : x ≠ .coupling) (inv : RollInv s) (i : IdleInv s) : IdleInv t := by
  cases h with
  | dir t h =>
    have hl := h.frame.line
    exact i.of_eq h.frame.feed h.frame.cm (by rw [hl]) (by rw [hl]) h.frame.walker (by rw [h.frame.roll])
      (by rw [h.frame.roll]) (by rw [h.frame.roll]) h.frame.given
  | limits t h =>
    have hl := h.line
    have hr := h.roll
    exact i.of_eq h.feed h.cm (by rw [hl]) (by rw [hl]) h.walker (by rw [hr]) (by rw [hr]) (by rw [hr])
      fun c hc _ => by rw [h.given]; exact hc
  | give l => exact i.of_eq rfl rfl rfl rfl rfl rfl rfl rfl fun c hc _ => List.mem_append_left _ hc
  | take c h =>
    have hg : ∀ f : LossReason → Instr, (∀ r, f r ≠ c) →
        (∃ r, f r ∈ s.given) → ∃ r, f r ∈ s.given.erase c := fun f hne ⟨r, hr⟩ =>
      ⟨r, (List.mem_erase_of_ne (hne r)).2 hr⟩
    refine ⟨fun hb => ?_, fun hb => ?_, fun hb => ?_, fun hb => ?_, fun hb => ?_, fun hb => ?_, i.round, i.hand⟩
    · by_cases hc : ∃ r, .feedCouplingLost r = c
      · obtain ⟨r, rfl⟩ := hc; exact absurd (hb.symm.trans h.1) Bool.true_eq_false.mp
      · push Not at hc; exact (i.logic hb).imp_right (hg _ hc)
    · by_cases hc : ∃ r, .feedCouplingLost r = c
      · obtain ⟨r, rfl⟩ := hc; exact absurd h.2 hb
      · push Not at hc; exact (i.capture hb).imp_right (hg _ hc)
    · by_cases hc : ∃ r, .lineCouplingLost r = c
      · obtain ⟨r, rfl⟩ := hc; exact absurd (hb.symm.trans h.1) Bool.true_eq_false.mp
      · push Not at hc; exact (i.line hb).imp_right (hg _ hc)
    · by_cases hc : ∃ r, .lineCouplingLost r = c
      · obtain ⟨r, rfl⟩ := hc; exact absurd (hb.symm.trans h.2) Bool.true_eq_false.mp
      · push Not at hc; exact (i.serving hb).imp_right (hg _ hc)
    · by_cases hc : ∃ r, .walkerCouplingLost r = c
      · obtain ⟨r, rfl⟩ := hc; exact absurd h hb
      · push Not at hc; exact (i.walker hb).imp_right (hg _ hc)
    · by_cases hc : ∃ r, .rollCouplingLost r = c
      · obtain ⟨r, rfl⟩ := hc; exact absurd h hb
      · push Not at hc; exact (i.timer hb).imp_right (hg _ hc)
  | monitor c b m l h =>
    have hfeed : (s.cm.state.coupled = true ∨ ∃ r, .feedCouplingLost r ∈ s.given) →
        (s.feed.logicOn = true ∨ s.feed.capture ≠ none) →
        c.state.coupled = true ∨ ∃ r, .feedCouplingLost r ∈ s.given ++ l := by
      rintro (hs | ⟨r, hr⟩) hon
      · obtain hl | ⟨r, hr⟩ | ⟨h1, h2⟩ := h.feeds hx
        · exact .inl (hl hs)
        · exact .inr ⟨r, List.mem_append_right _ hr⟩
        · rcases hon with hon | hon
          · exact absurd (hon.symm.trans h1) Bool.true_eq_false.mp
          · exact absurd h2 hon
      · exact .inr ⟨r, List.mem_append_left _ hr⟩
    exact ⟨fun hb => hfeed (i.logic hb) (.inl hb), fun hb => hfeed (i.capture hb) (.inr hb),
      fun hb => h.lineOn hx (fun r hr => hr.1) (i.line hb), fun hb => h.serving hx (fun r hr => hr.1) (i.serving hb),
      fun hb => h.lineOn hx (fun r hr => hr.2.1) (i.walker hb), fun hb => h.serving hx (fun r hr => hr.2.2.2) (i.timer hb),
      i.round, i.hand⟩
  | feed f h =>
    have hold : s.feed.logicOn = true ∨ s.feed.capture ≠ none ∨ s.cm.state.coupled = true →
        s.cm.state.coupled = true ∨ ∃ r, .feedCouplingLost r ∈ s.given := by
      rintro (h | h | h)
      · exact i.logic h
      · exact i.capture h
      · exact .inl h
    exact ⟨fun hb => hold (h (.inl hb)), fun hb => hold (h (.inr hb)), i.line, i.serving, i.walker, i.timer, i.round,
      i.hand⟩
  | line l h =>
    exact ⟨i.logic, i.capture, fun hb => (h.active hb).elim i.line .inl, fun hb => (h.serving hb).elim i.serving .inl,
      i.walker, i.timer, i.round, i.hand⟩
  | walker w _ hidle =>
    exact ⟨i.logic, i.capture, i.line, i.serving, fun hb => (hidle hb).elim i.walker .inl, i.timer, i.round, i.hand⟩
  | roll r h =>
    have hrest := h.resting inv fun ht => ⟨i.round ht, i.hand ht⟩
    exact ⟨i.logic, i.capture, i.line, i.serving, i.walker, fun hb => (h.timer hb).elim i.timer .inl,
      fun ht => (hrest ht).1, fun ht => (hrest ht).2⟩
  | _ => exact i.of_eq rfl rfl rfl rfl rfl rfl rfl rfl fun c hc _ => hc

end Sys2Proof.Machine
end

section
/-! PROOFS. Chains of changes, and the walker's operations as such chains (chapter 6). -/

namespace Sys2Proof.Machine

variable {s t u : State} {x : Exempt}

/-! ### Chains -/

/-- A chain of changes. -/
abbrev Event (x : Exempt) : State → State → Prop := Relation.ReflTransGen (Change x)

namespace Event

theorem of (h : Change x s t) : Event x s t := .single h

/-- A property that every change keeps, a chain keeps. -/
theorem keeps {P : State → Prop} (hP : ∀ {s t}, Change x s t → P s → P t) (h : Event x s t) (hs : P s) : P t := by
  induction h with
  | refl => exact hs
  | tail _ hc ih => exact hP hc ih

theorem gen (h : Event x s t) : GenInv s → GenInv t := h.keeps Change.gen
theorem dirInv (h : Event x s t) : DirInv s → DirInv t := h.keeps Change.dirInv
theorem lineInv (h : Event x s t) : LineInv s → LineInv t := h.keeps Change.lineInv
theorem walkerInv (h : Event x s t) : WalkerInv s → WalkerInv t := h.keeps Change.walkerInv
theorem rollInv (h : Event x s t) : RollInv s → RollInv t := h.keeps Change.rollInv
theorem boardInv (h : Event x s t) : BoardInv s → BoardInv t := h.keeps Change.boardInv

theorem quiet (h : Event x s t) (hx : x ≠ .coupling) (inv : DirInv s) (q : QuietInv s) : QuietInv t :=
  (h.keeps (P := fun s => DirInv s ∧ QuietInv s) (fun hc hs => ⟨hc.dirInv hs.1, hc.quiet hx hs.1 hs.2⟩) ⟨inv, q⟩).2

theorem live (h : Event x s t) (hx : x ≠ .live) (inv : DirInv s) (hl : s.limitsStand) (l : LiveInv s) : LiveInv t :=
  (h.keeps (P := fun s => DirInv s ∧ s.limitsStand ∧ LiveInv s)
    (fun hc hs => ⟨hc.dirInv hs.1, hc.live hx hs.1 hs.2.1 hs.2.2⟩) ⟨inv, hl, l⟩).2.2

theorem idle (h : Event x s t) (hx : x ≠ .coupling) (inv : RollInv s) (i : IdleInv s) : IdleInv t :=
  (h.keeps (P := fun s => RollInv s ∧ IdleInv s) (fun hc hs => ⟨hc.rollInv hs.1, hc.idle hx hs.1 hs.2⟩) ⟨inv, i⟩).2

theorem busy (h : Event x s t) (hx : x ≠ .abandoned) (inv : RollInv s) (hb : s.roll.busy) : t.roll.busy :=
  (h.keeps (P := fun s => RollInv s ∧ s.roll.busy) (fun hc hs => ⟨hc.rollInv hs.1, hc.busy hx hs.1 hs.2⟩) ⟨inv, hb⟩).2

theorem owed (h : Event x s t) (hx : x ≠ .owed) (inv : DirInv s) : OwedKept s t :=
  (h.keeps (P := fun t => DirInv t ∧ OwedKept s t)
    (fun hc hs => ⟨hc.dirInv hs.1, hs.2.trans (hc.owed hx hs.1)⟩) ⟨inv, .refl s⟩).2

theorem listening (h : Event x s t) (hx : x ≠ .listening) {c : Call}
    (hl : t.line.flight = .listening .rollCaller c) : s.line.flight = .listening .rollCaller c := by
  induction h with
  | refl => exact hl
  | tail _ hc ih => exact ih (hc.listening hx hl)

theorem sending (h : Event x s t) (hx : x ≠ .abandoned) {c : Call}
    (hl : t.line.flight = .sending .rollCaller c) (hn : t.roll.hand = none) :
    s.line.flight = .sending .rollCaller c ∧ s.roll.hand = none := by
  induction h with
  | refl => exact ⟨hl, hn⟩
  | tail _ hc ih => exact ih (hc.sending hx hl hn).1 (hc.sending hx hl hn).2

/-! ### Single changes -/

theorem dir (h : DirChange x s t) : Event x s t := of (.dir t h)

theorem give (l : List Instr) (s : State) : Event x s (s.give l) := of (.give l)

theorem take (c : Instr) (h : takenIdle s c) : Event x s (s.take c) := of (.take c h)

theorem port (p : ExchangePort) (h : genEven p.recGen = genEven s.port.recGen) :
    Event x s { s with port := p } := of (.port p s.callRetries s.pending h)

theorem raise (a : Alert) (s : State) : Event x s (s.raise a) := port _ rfl

theorem recordChange (a : Alert) (s : State) : Event x s (s.recordChange a) := port _ (genEven_genAfter _)

end Event

/-! ### The walker's state -/

/-- `WalkerInv` as it reads the walker. -/
def Walker.sound (w : Walker) : Prop :=
  w.stack.length ≤ 24 ∧ (∀ p ∈ w.stack, p.length ≤ 11) ∧ w.counts.inRange ∧ w.record.counts.inRange ∧
  w.attempts ≤ 8 ∧ w.sweepCount ≤ 255

theorem walkerInv_iff : WalkerInv s ↔ s.walker.sound :=
  ⟨fun ⟨h1, h2, h3, h4, h5, h6⟩ => ⟨h1, h2, h3, h4, h5, h6⟩, fun ⟨h1, h2, h3, h4, h5, h6⟩ => ⟨h1, h2, h3, h4, h5, h6⟩⟩

theorem countUp_le (v k : Nat) : countUp v k ≤ 255 := Nat.min_le_left _ _

theorem Walker.sound.push {w : Walker} (h : w.sound) {p : Prefix} (hp : p.length ≤ 11) : (w.push p).sound := by
  obtain ⟨h1, h2, ⟨c1, c2, c3, c4, c5, c6, c7, c8⟩, h4, h5, h6⟩ := h
  unfold Walker.push
  split
  · rename_i hl
    refine ⟨hl, fun q hq => ?_, ⟨c1, c2, c3, c4, c5, c6, c7, c8⟩, h4, h5, h6⟩
    obtain rfl | hq := List.mem_cons.1 hq
    · exact hp
    · exact h2 q hq
  · exact ⟨h1, h2, ⟨c1, c2, c3, c4, c5, c6, countUp_le .., c8⟩, h4, h5, h6⟩

theorem Walker.sound.takeGarbled {w : Walker} (p : Prefix) (l : List Nat) (h : w.sound) :
    (Walker.takeGarbled p w l).sound := by
  induction l generalizing w with
  | nil => exact h
  | cons g rest ih =>
    rw [Walker.takeGarbled]
    apply ih
    split
    · rename_i hp
      refine h.push ?_
      simp only [List.length_append, List.length_singleton]
      exact hp
    · obtain ⟨h1, h2, ⟨c1, c2, c3, c4, c5, c6, c7, c8⟩, h4, h5, h6⟩ := h
      exact ⟨h1, h2, ⟨c1, c2, c3, c4, c5, countUp_le .., c7, c8⟩, h4, h5, h6⟩

theorem Walker.sound.takeWindows {w : Walker} (h : w.sound) (p : Prefix) (judged : List Window) :
    (w.takeWindows p judged).sound :=
  Walker.sound.takeGarbled p _ (w := { w with
    candidates := w.candidates ++ candidatesOf judged, foundLen := p.length, seeking := none }) h

theorem Walker.sound.countClaim {w : Walker} (h : w.sound) (c : ClaimContext) (r : ClaimResult) :
    (w.countClaim c r).sound := by
  have hpush := h.push (p := (identityDigits c.cand.ident).take c.len ++ [c.window])
  obtain ⟨h1, h2, ⟨c1, c2, c3, c4, c5, c6, c7, c8⟩, h4, h5, h6⟩ := h
  unfold Walker.countClaim
  split
  · split
    · exact ⟨h1, h2, ⟨c1, c2, countUp_le .., c4, c5, c6, c7, c8⟩, h4, h5, h6⟩
    · exact ⟨h1, h2, ⟨c1, c2, c3, countUp_le .., c5, c6, c7, c8⟩, h4, h5, h6⟩
    · exact ⟨h1, h2, ⟨c1, countUp_le .., c3, c4, c5, c6, c7, c8⟩, h4, h5, h6⟩
  · split
    · rename_i hlen
      refine hpush ?_
      have hlen : c.len < 11 := hlen
      simp only [List.length_append, List.length_take, List.length_singleton]
      omega
    · exact ⟨h1, h2, ⟨c1, c2, c3, c4, countUp_le .., countUp_le .., c7, c8⟩, h4, h5, h6⟩
  · exact ⟨h1, h2, ⟨c1, c2, c3, c4, c5, c6, c7, c8⟩, h4, h5, h6⟩

theorem attemptsAfter_le {n : Nat} (hn : n ≤ 8) (r : PassResult) (how : PassEnd) : attemptsAfter n r how ≤ 8 := by
  unfold attemptsAfter
  split
  · exact Nat.zero_le _
  · exact hn
  · split
    · exact Nat.zero_le _
    · exact Nat.min_le_left _ _

/-! ### The walker's operations -/

/-- Only the walker, the record's GEN, ALERT and the notices given differ. -/
structure WalkerChange (s t : State) : Prop where
  eq : t = { s with walker := t.walker, port := t.port, given := t.given }
  recGen : genEven t.port.recGen = genEven s.port.recGen
  given : ∃ l, t.given = s.given ++ l
  sound : s.walker.sound → t.walker.sound

namespace WalkerChange

theorem trans (h1 : WalkerChange s t) (h2 : WalkerChange t u) : WalkerChange s u where
  eq := by rw [h2.eq, h1.eq]
  recGen := h2.recGen.trans h1.recGen
  given := by
    obtain ⟨l1, hl1⟩ := h1.given
    obtain ⟨l2, hl2⟩ := h2.given
    exact ⟨l1 ++ l2, by rw [hl2, hl1, List.append_assoc]⟩
  sound := h2.sound ∘ h1.sound

theorem refl (s : State) : WalkerChange s s := ⟨rfl, rfl, ⟨[], (List.append_nil _).symm⟩, id⟩

theorem line (h : WalkerChange s t) : t.line = s.line := by rw [h.eq]
theorem cm (h : WalkerChange s t) : t.cm = s.cm := by rw [h.eq]
theorem dir (h : WalkerChange s t) : t.dir = s.dir := by rw [h.eq]
theorem roll (h : WalkerChange s t) : t.roll = s.roll := by rw [h.eq]
theorem req (h : WalkerChange s t) : t.req = s.req := by rw [h.eq]

theorem walker (w : Walker) (hw : s.walker.sound → w.sound) : WalkerChange s { s with walker := w } :=
  ⟨rfl, rfl, ⟨[], (List.append_nil _).symm⟩, hw⟩

theorem event (h : WalkerChange s t)
    (idle : t.walker.state ≠ .idle → s.walker.state ≠ .idle ∨ s.cm.state.lineOn = true) : Event x s t := by
  obtain ⟨l, hl⟩ := h.given
  have h1 : Event x s { s with walker := t.walker } :=
    .of (.walker _ (fun inv => walkerInv_iff.2 (h.sound (walkerInv_iff.1 inv))) idle)
  have h2 : Event x { s with walker := t.walker } { s with walker := t.walker, port := t.port } := .port _ h.recGen
  have h3 : Event x { s with walker := t.walker, port := t.port } t := by
    have := Event.give (x := x) l { s with walker := t.walker, port := t.port }
    rw [h.eq, hl]; exact this
  exact (h1.trans h2).trans h3

theorem startPass (st : WalkerState) (s : State) : WalkerChange s (s.startPass st) :=
  ⟨rfl, rfl, ⟨_, rfl⟩, fun ⟨_, _, _, h4, h5, _⟩ =>
    ⟨by simp [State.startPass], by simp [State.startPass], by simp [State.startPass, PassCounts.inRange], h4, h5,
      Nat.zero_le _⟩⟩

theorem startFurther (s : State) : WalkerChange s s.startFurther := by
  unfold State.startFurther
  split
  · exact .startPass _ s
  · exact .refl s

theorem wantPass (s : State) : WalkerChange s s.wantPass := by
  unfold State.wantPass
  split
  · exact .startFurther s
  · exact .startFurther s
  · exact .walker _ id

theorem closePass (how : PassEnd) (s : State) : WalkerChange s (s.closePass how) :=
  ⟨rfl, genEven_genAfter _, ⟨_, rfl⟩, fun ⟨_, _, h3, _, h5, h6⟩ =>
    ⟨Nat.zero_le _, fun _ hp => absurd hp List.not_mem_nil, h3, h3, attemptsAfter_le h5 .., h6⟩⟩

theorem endPass (how : PassEnd) (s : State) : WalkerChange s (s.endPass how) := by
  unfold State.endPass; dsimp only
  split
  · refine .trans ?_ (.startPass _ _)
    exact (closePass how s).trans (.walker _ id)
  · exact .closePass how s

theorem endIfDone (s : State) : WalkerChange s s.endIfDone := by
  unfold State.endIfDone
  split
  · exact .endPass _ s
  · exact .refl s

theorem walkWindows (p : Prefix) (judged : List Window) (s : State) : WalkerChange s (s.walkWindows p judged) := by
  have h : WalkerChange s { s with walker := s.walker.takeWindows p judged } := .walker _ fun h => h.takeWindows p judged
  unfold State.walkWindows; dsimp only
  split
  · exact h.trans (.endPass _ _)
  · exact h.trans (.endIfDone _)

theorem sweepWindows (judged : List Window) (s : State) : WalkerChange s (s.sweepWindows judged) := by
  unfold State.sweepWindows; dsimp only
  split
  · split
    · refine .trans ?_ (.startPass _ _)
      exact .walker _ id
    · exact .walker _ id
  · refine (((WalkerChange.walker (s := s) { s.walker with owed := false } id).trans (.startPass .walking _)).trans
      (.walker _ fun ⟨_, _, _, h4, h5, h6⟩ => ?_)).trans (.walkWindows _ _ _)
    exact ⟨Nat.zero_le _, fun _ hp => absurd hp List.not_mem_nil, by simp [State.startPass, PassCounts.inRange], h4, h5, h6⟩

theorem handWindows (heard : List Window) (s : State) : WalkerChange s (s.handWindows heard) := by
  unfold State.handWindows
  split
  · exact .refl s
  · split
    · exact .walkWindows _ _ s
    · exact .sweepWindows _ s
    · exact .walker _ id

theorem walkerLineClear (s : State) : WalkerChange s s.walkerLineClear := by
  unfold State.walkerLineClear
  split
  · exact .walker _ id
  · split
    · exact .refl s
    · refine .trans ?_ (.startPass _ _)
      exact (closePass .reseat s).trans (.walker _ id)
  · exact .walker _ id
  · exact .startFurther s
  · exact .startFurther s

theorem walkerLoss (s : State) : WalkerChange s s.walkerLoss := by
  have hclear : ∀ u : State, WalkerChange u { u with walker := { u.walker with
      state := .idle, stack := [], candidates := [], claim := none, seeking := none
      owed := false, attempts := 0, sweepCount := 0 } } := fun u => .walker _ fun ⟨_, _, h3, h4, _, _⟩ =>
    ⟨Nat.zero_le _, fun _ hp => absurd hp List.not_mem_nil, h3, h4, Nat.zero_le _, Nat.zero_le _⟩
  unfold State.walkerLoss; dsimp only
  split
  · exact (closePass _ s).trans (hclear _)
  · exact hclear s

end WalkerChange

/-! ### Where the walker leaves IDLE -/

theorem State.startFurther_leaves_idle (h : s.startFurther.walker.state ≠ .idle) :
    s.walker.state ≠ .idle ∨ s.cm.state.lineOn = true := by
  unfold State.startFurther at h
  split at h
  · rename_i hc; exact .inr hc
  · exact .inl h

theorem Event.startPass (st : WalkerState) (h : s.walker.state ≠ .idle ∨ s.cm.state.lineOn = true) :
    Event x s (s.startPass st) := (WalkerChange.startPass st s).event fun _ => h

theorem Event.startFurther (s : State) : Event x s s.startFurther :=
  (WalkerChange.startFurther s).event State.startFurther_leaves_idle

theorem Event.wantPass (s : State) : Event x s s.wantPass := by
  refine (WalkerChange.wantPass s).event fun h => ?_
  unfold State.wantPass at h
  split at h
  · exact State.startFurther_leaves_idle h
  · exact State.startFurther_leaves_idle h
  · exact .inl h

theorem Event.endIfDone (s : State) : Event x s s.endIfDone := by
  refine (WalkerChange.endIfDone s).event fun h => ?_
  unfold State.endIfDone at h
  split at h
  · rename_i hw; exact .inl (by simp [hw.1])
  · exact .inl h

theorem Event.handWindows (heard : List Window) (s : State) : Event x s (s.handWindows heard) := by
  refine (WalkerChange.handWindows heard s).event fun h => ?_
  unfold State.handWindows at h
  split at h
  · exact .inl h
  · split at h
    · rename_i hw; exact .inl (by simp [hw])
    · rename_i hw; exact .inl (by simp [hw])
    · exact .inl h

theorem Event.walkerLineClear (s : State) : Event x s s.walkerLineClear := by
  refine (WalkerChange.walkerLineClear s).event fun h => ?_
  unfold State.walkerLineClear at h
  split at h
  · rename_i hw; exact .inl (by simp [hw])
  · rename_i hw; exact .inl (by simp [hw])
  · exact .inl h
  · exact State.startFurther_leaves_idle h
  · exact State.startFurther_leaves_idle h

theorem Event.walkerLoss (s : State) : Event x s s.walkerLoss :=
  (WalkerChange.walkerLoss s).event fun h => absurd rfl h

/-- A notice taken is another than those given. -/
theorem State.take_give {c : Instr} {l : List Instr} (h : c ∉ l) (s : State) :
    (s.take c).give l = (s.give l).take c := by
  have hl : s.given.erase c ++ l = (s.given ++ l).erase c := by
    by_cases hc : c ∈ s.given
    · rw [List.erase_append_left _ hc]
    · rw [List.erase_of_not_mem hc, List.erase_of_not_mem (by simp [hc, h])]
  simp only [State.take, State.give, hl]

/-- The notice of the walker's own loss is taken with it. -/
theorem State.walkerLoss_take (r : LossReason) (s : State) :
    (s.take (.walkerCouplingLost r)).walkerLoss = s.walkerLoss.take (.walkerCouplingLost r) := by
  have hclose : (s.take (.walkerCouplingLost r)).closePass .couplingLost =
      (s.closePass .couplingLost).take (.walkerCouplingLost r) :=
    State.take_give (l := [.passEndReport ..]) (by simp)
      (State.recordChange .pass { s with walker := (s.closePass .couplingLost).walker })
  by_cases h : s.walker.passRunning = true
  · simp only [State.walkerLoss, State.take_walker, h, if_true, hclose]; rfl
  · simp only [State.walkerLoss, State.take_walker, eq_false h, if_false]; rfl

theorem Event.walkerCouplingLost (r : LossReason) (s : State) :
    Event x s (s.take (.walkerCouplingLost r)).walkerLoss := by
  rw [State.walkerLoss_take]
  exact (Event.walkerLoss s).trans (Event.take _ rfl)

end Sys2Proof.Machine
end

section
/-! PROOFS. The line unit's, roll caller's and request unit's operations and the grant of the line as chains of changes
(chapters 3, 7 and 9). -/

namespace Sys2Proof.Machine

variable {s t u : State} {x : Exempt}

/-! ### What is in flight -/

/-- A call group in flight: on an active line, a seek with windows to come, and no ROLL's answer awaited or ROLL sent that
the change does not account for. -/
theorem LineFits.setFlight (f : Flight) (hf : f ≠ .free → s.line.flight ≠ .free ∨ s.line.active = true)
    (hw : ∀ heard, f = .windows heard → heard.length < 16)
    (hl : x ≠ .listening → ∀ c, f = .listening .rollCaller c → s.line.flight = .listening .rollCaller c)
    (hs : ∀ c, f = .sending .rollCaller c → s.line.flight = .sending .rollCaller c ∨ s.roll.hand ≠ none) :
    LineFits x s { s.line with flight := f } where
  releases := rfl
  inv inv := ⟨fun h => (hf h).elim inv.flight id, inv.held, inv.heldCount, inv.heldBelow, inv.serving, inv.releases, hw⟩
  active := .inl
  serving := .inl
  listening := hl
  sending := hs

theorem Event.freeLine (s : State) : Event x s s.freeLine :=
  .of (.line _ (.setFlight .free (fun h => absurd rfl h) (by simp) (by simp) (by simp)))

/-- A call sent, or asked for after the gap, on a line on which its group is in flight or may be. -/
theorem Event.sendCall (b : Claimant) (c : Call) (h : s.line.flight ≠ .free ∨ s.line.active = true)
    (hb : b = .rollCaller → s.roll.hand ≠ none) : Event x s (s.setFlight (.sending b c)) :=
  .of (.line _ (.setFlight _ (fun _ => h) (by simp) (by simp) fun _ hc => .inr (hb (by cases hc; rfl))))

theorem Event.askAgain (b : Claimant) (c : Call) (h : s.line.flight ≠ .free) : Event x s (s.askAgain b c) :=
  .of (.line _ (.setFlight _ (fun _ => .inl h) (by simp) (by simp) (by simp)))

/-- The line goes inactive: nothing is left that only an active line has (R53, R54). -/
theorem LineFits.standDown : LineFits x s { s.line with
    active := false, serving := false, clearOwed := false, heldRunning := false, heldCount := 0, flight := .free } := by
  refine ⟨rfl, fun inv => ⟨?_, ?_, ?_, ?_, ?_, inv.releases, ?_⟩, ?_, ?_, ?_, ?_⟩ <;> simp

theorem Event.lineStandDown (s : State) : Event x s s.lineStandDown :=
  (Event.of (.line _ .standDown)).trans (Event.give _ _)

/-! ### The request board (chapter 9) -/

/-- What the invariant of the board asks of one slot. -/
def Slot.sound (t : Slot) : Prop :=
  (t.wait.isSome = true ↔ t.phase = .waiting) ∧ (t.latched.isSome = true ↔ t.phase = .waiting ∨ t.phase = .onLine) ∧
  (t.phase = .waiting → t.latched ≠ some .reseat) ∧ (t.phase ≠ .done → t.result = .ok)

theorem boardInv_iff : BoardInv s ↔
    s.req.postOrder.Nodup ∧ ∀ k : SlotNo, (k ∈ s.req.postOrder ↔ (s.slot k).phase = .waiting) ∧ (s.slot k).sound :=
  ⟨fun inv => ⟨inv.once, fun k => ⟨inv.waiting k, inv.timers k, inv.latched k, inv.reseat k, inv.result k⟩⟩,
    fun ⟨h1, h2⟩ => ⟨h1, fun k => (h2 k).1, fun k => (h2 k).2.1, fun k => (h2 k).2.2.1, fun k => (h2 k).2.2.2.1,
      fun k => (h2 k).2.2.2.2⟩⟩

/-- One slot and its place in the post-order list change. -/
theorem BoardInv.of_slot (inv : BoardInv s) (k : SlotNo) (c : Slot)
    (hs : ∀ j, t.slot j = if k = j then c else s.slot j) (once : t.req.postOrder.Nodup)
    (others : ∀ j, j ≠ k → (j ∈ t.req.postOrder ↔ j ∈ s.req.postOrder))
    (waiting : k ∈ t.req.postOrder ↔ c.phase = .waiting) (hc : c.sound) : BoardInv t := by
  rw [boardInv_iff] at inv ⊢
  obtain ⟨-, inv⟩ := inv
  refine ⟨once, fun j => ?_⟩
  rw [hs]
  split
  · rename_i h; subst h; exact ⟨waiting, hc⟩
  · rename_i h; rw [others j (Ne.symm h)]; exact inv j

/-- A slot whose phase, result, request and timer stay. -/
theorem BoardInv.putSlot (inv : BoardInv s) (k : SlotNo) (c : Slot) (h1 : c.phase = (s.slot k).phase)
    (h2 : c.result = (s.slot k).result) (h3 : c.latched = (s.slot k).latched) (h4 : c.wait = (s.slot k).wait) :
    BoardInv (s.putSlot k c) := by
  have h := (boardInv_iff.1 inv).2 k
  refine inv.of_slot k c (s.slot_putSlot k · c) inv.once (fun _ _ => .rfl) ?_ ?_
  · rw [h1]; exact h.1
  · unfold Slot.sound; rw [h1, h2, h3, h4]; exact h.2

theorem Slot.sound_ended (r : Result) (ws : List Word) (c : Slot) : (c.ended r ws).sound := by
  simp [Slot.sound, Slot.ended]

theorem BoardInv.completed (inv : BoardInv s) (k : SlotNo) (r : Result) (ws : List Word) :
    BoardInv (s.completeRequest k r ws) := by
  refine inv.of_slot k _ (s.slot_completeRequest k · r ws) (inv.once.filter _) (fun j hj => ?_) ?_
    (Slot.sound_ended r ws _)
  · simp [hj]
  · simp [Slot.ended]

theorem Event.putSlot (k : SlotNo) (c : Slot) (h1 : c.phase = (s.slot k).phase)
    (h2 : c.result = (s.slot k).result) (h3 : c.latched = (s.slot k).latched) (h4 : c.wait = (s.slot k).wait) :
    Event x s (s.putSlot k c) := .of (.req _ fun inv => inv.putSlot k c h1 h2 h3 h4)

theorem Event.storeAsk (k : SlotNo) (w : Word) (s : State) : Event x s (s.storeAsk k w) :=
  .putSlot k _ rfl rfl rfl rfl

theorem Event.completeRequest (k : SlotNo) (r : Result) (ws : List Word) (s : State) :
    Event x s (s.completeRequest k r ws) :=
  (Event.of (.req _ fun inv => (inv.completed k r ws).of_req rfl)).trans (Event.raise .request _)

theorem Event.requestHand (h : Option RequestCall) (s : State) :
    Event x s { s with req := { s.req with hand := h } } :=
  .of (.req _ fun inv => ⟨inv.once, inv.waiting, inv.timers, inv.latched, inv.reseat, inv.result⟩)

theorem Event.waitForLine (k : SlotNo) (q : LineRequest) (hk : (s.slot k).phase ≠ .waiting) (hq : q ≠ .reseat) :
    Event x s (s.waitForLine k q) := by
  refine .of (.req _ fun inv => ?_)
  have hmem : k ∉ s.req.postOrder := fun h => hk ((inv.waiting k).1 h)
  refine inv.of_slot k { s.slot k with phase := .waiting, result := .ok, latched := some q, wait := some s.req.waitMs }
    (s.slot_putSlot k · _) ?_ (fun j hj => ?_) ?_ ?_
  · exact List.nodup_append.2 ⟨inv.once, by simp, fun a ha b hb => by
      rw [List.mem_singleton.1 hb]; rintro rfl; exact hmem ha⟩
  · simp [hj]
  · simp
  · simp [Slot.sound, hq]

/-- Many slots change, and no waiting one stays in the list but as it was. -/
theorem BoardInv.of_slots (inv : BoardInv s) (f : Slot → Slot) (hs : ∀ k, t.slot k = f (s.slot k))
    (once : t.req.postOrder.Nodup)
    (waiting : ∀ k, k ∈ t.req.postOrder ↔ (f (s.slot k)).phase = .waiting) (hf : ∀ c : Slot, c.sound → (f c).sound) :
    BoardInv t := by
  rw [boardInv_iff] at inv ⊢
  refine ⟨once, fun k => ?_⟩
  rw [hs]
  exact ⟨waiting k, hf _ (inv.2 k).2⟩

theorem Slot.reseated_phase (c : Slot) : c.reseated.phase = .waiting ↔ c.phase = .waiting := by
  unfold Slot.reseated
  split
  · rename_i h; simp [Slot.ended, h.1]
  · rfl

theorem Slot.lost_phase (r : LossReason) (c : Slot) : (c.lost r).phase ≠ .waiting := by
  unfold Slot.lost
  split
  · simp [Slot.ended]
  · rename_i h; exact fun h' => h (.inl h')

/-- Slots that end, or stay, stay sound. -/
theorem State.endSlots_eq (f : Slot → Slot) (s : State) : s.endSlots f = { s with
    req := { s.req with slots := Vector.ofFn fun k => f (s.slot k) }
    port := { s.port with
      alert := if allSlots.any fun k => decide (f (s.slot k) ≠ s.slot k) then s.port.alert ||| 4#7
        else s.port.alert } } := by
  unfold State.endSlots
  generalize (allSlots.any fun k => decide (f (s.slot k) ≠ s.slot k)) = b
  cases b <;> rfl

theorem Event.requestLineClear (s : State) : Event x s (s.endSlots Slot.reseated) := by
  rw [State.endSlots_eq]
  refine (Event.of (.req { s.req with slots := Vector.ofFn fun k => (s.slot k).reseated } fun inv => ?_)).trans
    (Event.port _ rfl)
  refine inv.of_slots Slot.reseated (fun k => by simp [State.slot]) inv.once (fun k => ?_) fun c hc => ?_
  · rw [Slot.reseated_phase]; exact inv.waiting k
  · unfold Slot.reseated
    split
    · exact Slot.sound_ended ..
    · exact hc

theorem Event.requestLoss (r : LossReason) (s : State) : Event x s (s.requestLoss r) := by
  unfold State.requestLoss
  rw [State.endSlots_eq]
  refine (Event.of (.req { slots := Vector.ofFn fun k => (s.slot k).lost r, postOrder := [], hand := none
                           waitMs := s.req.waitMs } fun inv => ?_)).trans (Event.port _ rfl)
  refine inv.of_slots (Slot.lost r) (fun k => by simp [State.slot]) List.nodup_nil (fun k => ?_) fun c hc => ?_
  · simp [Slot.lost_phase]
  · unfold Slot.lost
    split
    · exact Slot.sound_ended ..
    · exact hc

/-! ### Rounds (R122 to R124) -/

/-- The roll caller after a round's end: idle, or in the owed round, or idle again where no name is due. -/
def RollCaller.ended (names : List Name) (r : RollCaller) : RollCaller :=
  if r.owed then
    { r with owed := false, round := r.round + 1, due := names, inProgress := decide (names ≠ []) }
  else { r with inProgress := false }

theorem State.endRound_eq (s : State) : ∃ l, s.endRound = { s with
    roll := s.roll.ended s.dueNames, given := s.given ++ l } := by
  have hnames : ∀ r g, ({ s with roll := r, given := g } : State).dueNames = s.dueNames := fun _ _ => rfl
  cases ho : s.roll.owed with
  | false => exact ⟨[.roundEndNotice], by simp [State.endRound, State.closeRound, State.give, RollCaller.ended, ho]⟩
  | true =>
    by_cases hn : s.dueNames = []
    · exact ⟨[.roundEndNotice, .roundEndNotice], by
        simp [State.endRound, State.closeRound, State.openRound, State.give, RollCaller.ended, ho, hnames, hn]⟩
    · exact ⟨[.roundEndNotice], by
        simp [State.endRound, State.closeRound, State.openRound, State.give, RollCaller.ended, ho, hnames, hn]⟩

theorem State.dueNames_sorted (s : State) : s.dueNames.Pairwise (· < ·) :=
  (List.pairwise_lt_finRange 62).filter _

/-- A round ends with no name due (R124). -/
theorem RollFits.ended {r : RollCaller} (h : RollFits .abandoned s r) (hd : r.due = [])
    (ho : RollInv s → r.owed = true → s.roll.inProgress = true) (names : List Name) (hn : names.Pairwise (· < ·))
    (hhand : x ≠ .abandoned → ∀ c, s.line.flight = .sending .rollCaller c → r.hand = none → s.roll.hand = none) :
    RollFits x s (r.ended names) := by
  unfold RollCaller.ended
  split
  · rename_i howed
    refine ⟨h.strikeLimit, h.keepRounds, fun inv => ⟨hn, fun h => by simpa using h, fun h => by cases h⟩,
      fun _ _ _ hp => (by simpa using hp), h.timer, fun inv hr ht => ?_, hhand⟩
    have hidle := h.resting inv hr ht
    refine ⟨?_, hidle.2⟩
    have htimer : s.roll.timer = none := by
      by_contra hne
      have := (h.inv inv).owed howed
      exact absurd (hidle.1.symm.trans this) Bool.false_ne_true
    exact absurd ((hr htimer).1.symm.trans (ho inv howed)) Bool.false_ne_true
  · rename_i howed
    refine ⟨h.strikeLimit, h.keepRounds, fun inv => ⟨(h.inv inv).due, fun h => absurd hd h, fun h => absurd h howed⟩,
      fun _ _ _ hp => (by cases hp), h.timer, fun inv hr ht => ⟨rfl, (h.resting inv hr ht).2⟩, hhand⟩

end Sys2Proof.Machine
end

section
/-! PROOFS. Rounds, reports, grants and answers as chains of changes (chapters 3 to 9). -/

namespace Sys2Proof.Machine

variable {s t u : State} {x : Exempt}

/-! ### Rounds (R121 to R131) -/

theorem Event.roll {r : RollCaller} (h : RollFits x s r) (l : List Instr) :
    Event x s { s with roll := r, given := s.given ++ l } :=
  (Event.of (.roll r h)).trans (Event.give l _)

/-- A round ends after the roll caller has come to `r`, with no name due. -/
theorem Event.endRound {r : RollCaller} (h : RollFits .abandoned s r) (hd : r.due = [])
    (ho : RollInv s → r.owed = true → s.roll.inProgress = true)
    (hhand : x ≠ .abandoned → ∀ c, s.line.flight = .sending .rollCaller c → r.hand = none → s.roll.hand = none) :
    Event x s (State.endRound { s with roll := r }) := by
  obtain ⟨l, hl⟩ := State.endRound_eq { s with roll := r }
  rw [hl]
  exact Event.roll (h.ended hd ho _ (State.dueNames_sorted _) hhand) l

/-- A change of the roll caller that leaves its timer and hand. -/
theorem RollFits.of_due {r : RollCaller} (hs : r.strikeLimit = s.roll.strikeLimit)
    (hk : r.keepRounds = s.roll.keepRounds) (ht : r.timer = s.roll.timer) (hh : r.hand = s.roll.hand)
    (hp : r.inProgress = s.roll.inProgress) (hinv : RollInv s → RollInv { s with roll := r })
    (hb : x ≠ .abandoned → RollInv s → s.roll.busy → r.busy) : RollFits x s r where
  strikeLimit := hs
  keepRounds := hk
  inv := hinv
  busy := hb
  timer := by rw [ht]; exact .inl
  resting _ h := by unfold RollCaller.resting; rw [ht, hp, hh]; exact h
  hand _ _ _ h := by rw [← hh]; exact h

/-- The line unit grants the roll caller the line where names are due, so in a round (R125). -/
theorem Event.rollGrant (ha : s.line.active = true) (hd : s.roll.due ≠ []) : Event x s s.rollGrant := by
  unfold State.rollGrant
  split
  · refine Event.endRound (.of_due rfl rfl rfl rfl rfl (fun inv => ?_) fun h => absurd rfl h) rfl
      (fun inv => inv.owed) fun _ _ _ => id
    exact ⟨List.Pairwise.nil, fun h => absurd rfl h, inv.owed⟩
  · rename_i n rest hfit
    have hround : RollInv s → s.roll.inProgress = true := fun inv => inv.round hd
    have hsub : RollInv s → (n :: rest).Pairwise (· < ·) := fun inv => by
      rw [← hfit]; exact inv.due.filter _
    have hroll : RollFits x s { s.roll with
        due := n :: rest, hand := some ⟨n, (s.entry n).state, (s.entry n).ident, 1⟩ } := by
      refine ⟨rfl, rfl, fun inv => ⟨hsub inv, fun _ => hround inv, inv.owed⟩, fun _ _ _ _ => by simp, .inl,
        fun inv hr ht => ?_, fun _ _ _ h => by cases h⟩
      exact absurd ((hr ht).1.symm.trans (hround inv)) Bool.false_ne_true
    exact (Event.of (.roll _ hroll)).trans (Event.sendCall .rollCaller _ (.inr ha) fun _ => by simp)

/-! ### Reports and notices of the directory (R77 to R95) -/

theorem Event.takeOutcome (n : Name) (i : Identity) (r : ClaimResult) (st : Option Byte) (s : State) :
    Event x s (s.takeOutcome n i r st) := by
  unfold State.takeOutcome
  split
  · exact .refl
  · rename_i o ho
    split
    · rename_i h
      obtain ⟨rfl, -⟩ := h
      split
      · rename_i hst
        exact (Event.dir (.settleOffer x ho hst r st)).trans (Event.dir (.clearOffer x _))
      · exact Event.dir (.clearOffer x s)
    · exact .refl

/-- A dispute's own notice is left out where the walker takes it in the event (R109, log 5). -/
theorem Event.takeDispute (n : Name) (i : Identity) (h : s.outcomeActs n i = true) :
    Event x s { s.takeOutcome n i .dispute none with given := s.given } := by
  unfold State.outcomeActs at h
  split at h
  · cases h
  · rename_i o ho
    obtain ⟨⟨rfl, rfl⟩, hst⟩ : (o.name = n ∧ o.ident = i) ∧ o.stands (s.entry n) = true := by simpa using h
    have hco := o.stands_coupledOnly hst
    have hd := DirChange.dispute x o.name s.given (fun _ => id) (EntryState.ne_vacant_of_coupledOnly hco) (.inl hco)
    have he : { s.takeOutcome o.name o.ident .dispute none with given := s.given } =
        ({ (s.stableEntry o.name { s.entry o.name with
          state := .disputed, conflict := true, owed := true, strikes := 0, keep := 0 }).joinRelease o.name with
          given := s.given } : State).clearOffer := by
      have ht : s.takeOutcome o.name o.ident .dispute none = (s.settleOffer o .dispute none).clearOffer := by
        unfold State.takeOutcome
        rw [ho]
        simp only [and_self, if_true, hst]
      rw [ht]; rfl
    rw [he]
    exact (Event.dir hd).trans (Event.dir (.clearOffer x _))

theorem State.takeOutcome_dispute (n : Name) (i : Identity) (st : Option Byte) (s : State) :
    s.takeOutcome n i .dispute st = s.takeOutcome n i .dispute none := rfl

/-- The end of a claim group at the walker (R107). -/
theorem Event.finishClaim (c : ClaimContext) (r : ClaimResult) (st : Option Byte) (s : State) :
    Event x s (s.finishClaim c r st) := by
  have hcount : ∀ u : State, Event x u (State.endIfDone { u with walker :=
      { u.walker.countClaim c r with candidates := (u.walker.countClaim c r).candidates.tail, claim := none } }) :=
    fun u => by
      have hst : (u.walker.countClaim c r).state = u.walker.state := by
        unfold Walker.countClaim Walker.push; repeat' split
        all_goals rfl
      refine Relation.ReflTransGen.trans ?_ (Event.endIfDone _)
      refine WalkerChange.event (.walker _ fun h => h.countClaim c r) fun h => .inl ?_
      rwa [← hst]
  unfold State.finishClaim; dsimp only
  split
  · rename_i h
    obtain ⟨rfl, hacts⟩ := h
    exact ((Event.takeDispute _ _ hacts).trans (Event.wantPass _)).trans (hcount _)
  · exact (Event.takeOutcome _ _ _ _ _).trans (hcount _)

/-! ### Grants (R50 to R52) -/

theorem Event.dropCandidate (f : PassCounts → PassCounts) (hf : ∀ c : PassCounts, c.inRange → (f c).inRange)
    (s : State) : Event x s (s.dropCandidate f) :=
  (WalkerChange.event (.walker { s.walker with
    candidates := s.walker.candidates.tail, counts := f s.walker.counts }
    fun ⟨h1, h2, h3, h4, h5, h6⟩ => ⟨h1, h2, hf _ h3, h4, h5, h6⟩) .inl).trans (Event.endIfDone _)

theorem PassCounts.inRange.addNoRoom {c : PassCounts} (h : c.inRange) : c.addNoRoom.inRange := by
  obtain ⟨c1, c2, c3, c4, c5, c6, c7, c8⟩ := h
  exact ⟨c1, c2, c3, c4, c5, c6, c7, countUp_le ..⟩

theorem PassCounts.inRange.addUnresolved {c : PassCounts} (h : c.inRange) : c.addUnresolved.inRange := by
  obtain ⟨c1, c2, c3, c4, c5, c6, c7, c8⟩ := h
  exact ⟨c1, c2, c3, c4, c5, countUp_le .., c7, c8⟩

/-- The walker's state after a change that leaves its stack, counts and record sound. -/
theorem Event.sendClaim (c : Candidate) (n : Name) (k : OfferKind) (ha : s.line.active = true) :
    Event x s (s.sendClaim c n k) :=
  (WalkerChange.event (.walker { s.walker with
    claim := some ⟨c, n, k, s.walker.foundLen, digitAt c.ident s.walker.foundLen⟩ } id) .inl).trans
      (Event.sendCall .walker _ (.inr ha) (by simp))

theorem Event.claimGrant (c : Candidate) (ha : s.line.active = true) (hc : s.cm.state.lineOn = true) :
    Event x s (s.claimGrant c) := by
  have hoffer : DirChange x s (s.makeOffer c.ident c.cls (s.nameChoice c.ident c.cls)) := .makeOffer x _ _ hc
  have ha' : (s.makeOffer c.ident c.cls (s.nameChoice c.ident c.cls)).line.active = true := by
    rw [hoffer.frame.line]; exact ha
  unfold State.claimGrant; dsimp only
  refine (Event.dir hoffer).trans ?_
  split
  · exact Event.sendClaim _ _ _ ha'
  · exact Event.sendClaim _ _ _ ha'
  · exact Event.sendClaim _ _ _ ha'
  · exact Event.dropCandidate _ (fun _ h => h.addNoRoom) _
  · exact Event.dropCandidate _ (fun _ h => h.addNoRoom) _
  · exact Event.dropCandidate _ (fun _ h => h.addUnresolved) _

theorem Event.walkerGrant (ha : s.line.active = true) (hc : s.cm.state.lineOn = true) : Event x s s.walkerGrant := by
  unfold State.walkerGrant
  split
  · split
    · exact Event.claimGrant _ ha hc
    · split
      · rename_i p rest hst
        refine (WalkerChange.event (.walker { s.walker with
          stack := rest, seeking := some p
          counts := { s.walker.counts with seeks := countUp s.walker.counts.seeks 1 } } ?_) .inl).trans
          (Event.sendCall .walker _ (.inr ha) (by simp))
        rintro ⟨h1, h2, ⟨c1, c2, c3, c4, c5, c6, c7, c8⟩, h4, h5, h6⟩
        rw [hst] at h1 h2
        exact ⟨Nat.le_of_succ_le h1, fun q hq => h2 q (List.mem_cons_of_mem _ hq),
          ⟨countUp_le .., c2, c3, c4, c5, c6, c7, c8⟩, h4, h5, h6⟩
      · exact .refl
  · rename_i hst
    refine (WalkerChange.event (.walker { s.walker with state := .sweeping, sweepCount := 0, seeking := some [] }
      fun ⟨h1, h2, h3, h4, h5, _⟩ => ⟨h1, h2, h3, h4, h5, Nat.zero_le _⟩) fun _ => .inl (by simp [hst])).trans
      (Event.sendCall .walker _ (.inr ha) (by simp))
  · exact .refl

theorem Event.requestGrant (ha : s.line.active = true) : Event x s s.requestGrant := by
  unfold State.requestGrant
  split
  · exact .refl
  · rename_i k rest hpo
    dsimp only
    have hk : BoardInv s → (s.slot k).phase = .waiting := fun inv => (inv.waiting k).1 (by simp [hpo])
    have hother : ∀ j, j ≠ k → (j ∈ rest ↔ j ∈ s.req.postOrder) := fun j hj => by simp [hpo, hj]
    have honce : BoardInv s → k ∉ rest ∧ rest.Nodup := fun inv => by
      have := inv.once; rw [hpo] at this; exact List.nodup_cons.1 this
    generalize hs1 : State.putSlot k { s.slot k with wait := none } { s with req := { s.req with postOrder := rest } } = s1
    have hslot : ∀ j, s1.slot j = if k = j then { s.slot k with wait := none } else s.slot j := fun j => by
      rw [← hs1]; exact State.slot_putSlot ..
    have hrest : s1.req.postOrder = rest := by rw [← hs1]; rfl
    have hs1eq : s1 = { s with req := s1.req } := by rw [← hs1]; rfl
    split
    · rename_i q hq
      unfold State.serveRequest
      split
      · rename_i r hr
        have hc : s1.completeRequest k r [] =
            State.raise .request { s with req := (s1.completeRequest k r []).req } := by rw [hs1eq]; rfl
        rw [hc]
        refine (Event.of (.req _ fun inv => ?_)).trans (Event.raise _ _)
        refine BoardInv.of_slot inv k ((s1.slot k).ended r []) (fun j => ?_) ?_ (fun j hj => ?_) ?_
          (Slot.sound_ended ..)
        · refine (s1.slot_completeRequest k j r []).trans ?_
          rw [hslot j]
          by_cases h : k = j
          · simp only [if_pos h]
          · simp only [if_neg h]
        · show (s1.req.postOrder.filter _).Nodup
          rw [hrest]; exact (honce inv).2.filter _
        · show j ∈ s1.req.postOrder.filter _ ↔ _
          rw [hrest]; simp [hj, hother j hj]
        · show k ∈ s1.req.postOrder.filter _ ↔ _
          simp [Slot.ended]
      · have hline : ∀ m c, q ≠ .reseat → Event x s (s1.goOnLine k m c) := fun m c hqr => by
          have hc : s1.goOnLine k m c = State.setFlight (.sending .requestUnit c)
              { s with req := (s1.goOnLine k m c).req } := by rw [hs1eq]; rfl
          rw [hc]
          refine (Event.of (.req _ fun inv => ?_)).trans (Event.sendCall _ _ (.inr ha) (by simp))
          refine BoardInv.of_slot inv k { s1.slot k with phase := .onLine, result := .ok } (fun j => ?_) ?_
            (fun j hj => ?_) ?_ ?_
          · refine (s1.slot_putSlot k j _).trans ?_
            rw [hslot j]
            by_cases h : k = j
            · simp only [if_pos h]
            · simp only [if_neg h]
          · show s1.req.postOrder.Nodup
            rw [hrest]; exact (honce inv).2
          · show j ∈ s1.req.postOrder ↔ _
            rw [hrest]; exact hother j hj
          · show k ∈ s1.req.postOrder ↔ _
            rw [hrest]; simp [(honce inv).1]
          · rw [hslot k]; simp [Slot.sound, hq]
        split
        · exact hline _ _ (by simp)
        · exact hline _ _ (by simp)
        · exact hline _ _ (by simp)
        · rw [hs1eq]
          exact Event.of (.req _ fun inv => absurd hq (inv.reseat k (hk inv)))
    · rename_i hq
      rw [hs1eq]
      refine Event.of (.req _ fun inv => ?_)
      have := (inv.latched k).2 (.inl (hk inv))
      rw [hq] at this
      cases this

/-! ### What stays with a grant -/

theorem State.endIfDone_line (s : State) : s.endIfDone.line = s.line := (WalkerChange.endIfDone s).line

theorem State.makeOffer_active (i : Identity) (c : Byte) (hc : s.cm.state.lineOn = true) :
    (s.makeOffer i c (s.nameChoice i c)).line.active = s.line.active := by
  rw [(DirChange.makeOffer .nothing i c hc).frame.line]

theorem State.walkerGrant_active (hc : s.cm.state.lineOn = true) : s.walkerGrant.line.active = s.line.active := by
  unfold State.walkerGrant
  split
  · split
    · rename_i c rest _
      have h := State.makeOffer_active c.ident c.cls hc
      unfold State.claimGrant; dsimp only
      split
      · exact h
      · exact h
      · exact h
      all_goals exact (congrArg LineUnit.active (State.endIfDone_line _)).trans h
    · split <;> rfl
  · rfl
  · rfl

theorem State.rollGrant_active (s : State) : s.rollGrant.line.active = s.line.active := by
  unfold State.rollGrant
  split
  · obtain ⟨l, hl⟩ := State.endRound_eq { s with roll := { s.roll with due := [] } }
    rw [hl]
  · rfl

theorem State.serveRequest_active (k : SlotNo) (q : LineRequest) (s : State) :
    (s.serveRequest k q).line.active = s.line.active := by
  unfold State.serveRequest
  split
  · rfl
  · split <;> rfl

theorem State.requestGrant_active (s : State) : s.requestGrant.line.active = s.line.active := by
  unfold State.requestGrant
  split
  · rfl
  · dsimp only
    split
    · exact State.serveRequest_active ..
    · rfl

theorem State.grant_active (g : Grant) (hc : s.cm.state.lineOn = true) :
    (s.grant g).line.active = s.line.active := by
  cases g with
  | lineClear => rfl
  | release n => rfl
  | rotation c =>
    cases c with
    | walker => exact State.walkerGrant_active (s := { s with line := { s.line with pointer := .walker } }) hc
    | rollCaller => exact State.rollGrant_active _
    | requestUnit => exact State.requestGrant_active _

/-! ### The decision (R50 to R52) -/

theorem Event.setPointer (c : Claimant) (s : State) : Event x s { s with line := { s.line with pointer := c } } :=
  .of (.line _ ⟨rfl, fun inv => ⟨inv.flight, inv.held, inv.heldCount, inv.heldBelow, inv.serving, inv.releases,
    inv.windows⟩, .inl, .inl, fun _ _ => id, fun _ => .inl⟩)

/-- A claimant of the rotation is granted the line only with work (R51). -/
theorem State.nextGrant_rotation {c : Claimant} (h : s.nextGrant = some (.rotation c)) : s.claimantWork c = true := by
  unfold State.nextGrant at h
  split at h
  · cases h
  · split at h
    · cases h
    · obtain ⟨d, hd, hdc⟩ := Option.map_eq_some_iff.1 h
      cases hdc
      have := List.find?_some hd
      simp only [Bool.and_eq_true] at this
      exact this.2

theorem Event.grant {g : Grant} (ha : s.line.active = true) (hc : s.cm.state.lineOn = true)
    (hg : s.nextGrant = some g) : Event x s (s.grant g) := by
  cases g with
  | lineClear =>
    refine .of (.line _ ⟨rfl, fun inv => ?_, .inl, .inl, by simp, by simp⟩)
    exact ⟨fun _ => ha, inv.held, inv.heldCount, inv.heldBelow, inv.serving, inv.releases, by simp⟩
  | release n => exact .of (.line _ (.setFlight _ (fun _ => .inr ha) (by simp) (by simp) (by simp)))
  | rotation c =>
    refine (Event.setPointer c s).trans ?_
    cases c with
    | walker => exact Event.walkerGrant ha hc
    | rollCaller =>
      refine Event.rollGrant ha fun h => ?_
      have := State.nextGrant_rotation hg
      simp only [State.claimantWork, Bool.not_eq_true', List.isEmpty_eq_false_iff] at this
      exact this h
    | requestUnit => exact Event.requestGrant ha

theorem Event.grantLoop (k : Nat) (ha : s.line.active = true) (hc : s.cm.state.lineOn = true) :
    Event x s (State.grantLoop k s) := by
  induction k generalizing s with
  | zero => exact .refl
  | succ k ih =>
    unfold State.grantLoop
    split
    · split
      · rename_i g hg
        refine (Event.grant ha hc hg).trans (ih ?_ ?_)
        · rw [State.grant_active g hc]; exact ha
        · rw [show (s.grant g).cm = s.cm from congrArg Kept.cm (s.grant_kept g)]; exact hc
      · exact .refl
    · exact .refl

theorem Event.decideGrant (s : State) : Event x s s.decideGrant := by
  unfold State.decideGrant
  split
  · rename_i h
    obtain ⟨ha, hc⟩ : s.line.active = true ∧ s.cm.state.lineOn = true := by simpa [State.mayGrant] using h
    exact Event.grantLoop _ ha hc
  · exact .refl

theorem Event.decideIfJoined (before : State) (h : Event x s t) : Event x s (before.decideIfJoined t) := by
  unfold State.decideIfJoined
  split
  · exact h
  · exact h.trans (Event.decideGrant t)

theorem Event.takePassWanted (s : State) : Event x s s.takePassWanted := by
  unfold State.takePassWanted
  split
  · exact (Event.wantPass s).trans (Event.decideGrant _)
  · exact Event.wantPass s

/-! ### Answers (R63 to R71, R125, R152, R153) -/

theorem Event.freeAndDecide (s : State) : Event x s s.freeLine.decideGrant :=
  (Event.freeLine s).trans (Event.decideGrant _)

theorem Event.walkerAnswer (c : Call) (a : Answer) (hf : s.line.flight ≠ .free) : Event x s (s.walkerAnswer c a) := by
  unfold State.walkerAnswer
  split
  · exact Event.freeAndDecide s
  · split
    · split
      · exact ((Event.freeLine s).trans (Event.finishClaim _ _ _ _)).trans (Event.decideGrant _)
      · exact Event.askAgain _ _ hf
    · exact ((Event.freeLine s).trans (Event.finishClaim _ _ _ _)).trans (Event.decideGrant _)

/-- A roll report touches nothing of the roll caller and reads its KEEP_ROUNDS alone. -/
theorem State.takeRollReport_roll (r : RollCaller) (hk : r.keepRounds = s.roll.keepRounds) (n : Name)
    (rep : RollReport) : State.takeRollReport n rep { s with roll := r } = { s.takeRollReport n rep with roll := r } := by
  unfold State.takeRollReport
  have ht : ({ s with roll := r } : State).takesRollReports = s.takesRollReports := rfl
  have he : ∀ m, ({ s with roll := r } : State).entry m = s.entry m := fun _ => rfl
  simp only [ht, he]
  split
  · cases rep with
    | answered st w => dsimp only; split <;> rfl
    | struckOut => dsimp only; rw [hk]; rfl
    | retentionExpired => unfold State.depart; dsimp only; split <;> rfl
    | _ => rfl
  · rfl

/-- What a roll's outcome reports keeps to the limits (R126, R127). -/
theorem rollReportOf_inLimits (h : RollCall) (w : Word) (a : Answer) (l : LiveInv s) (n : Name) :
    reportInLimits s.roll.strikeLimit s.roll.keepRounds
      (rollReportOf h (s.entry n) s.roll.strikeLimit w a) := by
  have hk := l.keep n
  unfold rollReportOf
  split
  · split
    · split <;> trivial
    · trivial
  · split
    · split
      · simp only [reportInLimits]; omega
      · trivial
    · split
      · simp only [reportInLimits]; assumption
      · trivial

/-- The end of a roll group, with the line free (R125 to R128). -/
theorem Event.finishRoll (h : RollCall) (a : Answer) (hf : s.line.flight = .free) : Event x s (s.finishRoll h a) := by
  have hrep : DirChange x s (s.takeRollReport h.name
      (rollReportOf h (s.entry h.name) s.roll.strikeLimit s.roll.round a)) :=
    .takeRollReport _ _ fun _ l _ _ => rollReportOf_inLimits h _ a l _
  unfold State.finishRoll; dsimp only
  rw [State.takeRollReport_roll (s := s) { s.roll with
    due := s.roll.due.filter fun m => m ≠ h.name, hand := none } rfl]
  generalize hu : s.takeRollReport h.name (rollReportOf h (s.entry h.name) s.roll.strikeLimit s.roll.round a) = u
  rw [hu] at hrep
  have hur : u.roll = s.roll := hrep.frame.roll
  have hflight : ∀ c, u.line.flight ≠ .sending .rollCaller c := fun c => by
    rw [hrep.frame.line]; simp [hf]
  have hdue : RollInv u → (s.roll.due.filter fun m => m ≠ h.name).Pairwise (· < ·) := fun inv => by
    rw [← hur]; exact inv.due.filter _
  have hfits : ∀ y : Exempt, (y ≠ .abandoned → (s.roll.due.filter fun m => m ≠ h.name) ≠ []) → RollFits y u { s.roll with
      due := s.roll.due.filter fun m => m ≠ h.name, hand := none } := fun y hy => by
    refine ⟨by rw [hur], by rw [hur], fun inv => ⟨hdue inv, fun hne => ?_, fun ho => ?_⟩, fun hx _ _ _ => hy hx, ?_, ?_,
      fun _ c hc => absurd hc (hflight c)⟩
    · have := inv.round
      rw [hur] at this
      exact this fun h0 => hne (by simp [h0])
    · have := inv.owed
      rw [hur] at this
      exact this ho
    · rw [hur]; exact .inl
    · intro _ hr ht
      rw [hur] at hr
      exact ⟨(hr ht).1, rfl⟩
  refine (Event.dir hrep).trans ?_
  split
  · rename_i hd
    refine Event.endRound (hfits _ fun hy => absurd rfl hy) hd (fun inv ho => ?_) fun _ c hc => absurd hc (hflight c)
    exact inv.owed (by rw [hur]; exact ho)
  · rename_i hd
    exact Event.of (.roll _ (hfits x fun _ => hd))

theorem Event.rollAnswer (c : Call) (a : Answer) (hf : s.line.flight ≠ .free) : Event x s (s.rollAnswer c a) := by
  unfold State.rollAnswer
  split
  · exact Event.freeAndDecide s
  · rename_i h hh
    split
    · exact ((Event.freeLine s).trans (Event.finishRoll h a rfl)).trans (Event.decideGrant _)
    · refine (Event.of (.roll { s.roll with hand := some { h with attempts := h.attempts + 1 } } ?_)).trans
        (Event.askAgain _ _ hf)
      refine ⟨rfl, rfl, fun inv => ⟨inv.due, inv.round, inv.owed⟩, fun _ _ hb => hb, .inl, fun _ hr ht => ?_,
        fun _ _ _ h => by cases h⟩
      have := (hr ht).2
      rw [hh] at this
      cases this

theorem Event.finishRequest (k : SlotNo) (r : Result) (ws : List Word) (s : State) :
    Event x s (s.finishRequest k r ws) :=
  (((Event.freeLine s).trans (Event.completeRequest k r ws _)).trans (Event.requestHand none _)).trans
    (Event.decideGrant _)

theorem Event.readAnswer (h : RequestCall) (c : Call) (n : Nat) (a : Answer) (hf : s.line.flight ≠ .free) :
    Event x s (s.readAnswer h c n a) := by
  unfold State.readAnswer
  split
  · exact Event.finishRequest _ _ _ s
  · dsimp only
    split
    · exact Event.finishRequest _ _ _ s
    · exact (Event.requestHand _ s).trans (Event.askAgain _ _ hf)

theorem Event.finishMove (h : RequestCall) (n : Name) (r : ClaimResult) (st : Option Byte) (a : Answer) (s : State) :
    Event x s (s.finishMove h n r st a) := by
  unfold State.finishMove; dsimp only
  refine (Event.takeOutcome n h.ident r st s).trans ?_
  split
  · exact (Event.give _ _).trans (Event.finishRequest _ _ _ _)
  · exact Event.finishRequest _ _ _ _

theorem Event.requestAnswer (c : Call) (a : Answer) (hf : s.line.flight ≠ .free) :
    Event x s (s.requestAnswer c a) := by
  unfold State.requestAnswer
  split
  · exact Event.freeAndDecide s
  · split
    · exact Event.readAnswer _ _ _ _ hf
    · exact Event.finishRequest _ _ _ s
    · split
      · exact Event.finishMove _ _ _ _ _ s
      · exact (Event.requestHand _ s).trans (Event.askAgain _ _ hf)
    · exact Event.finishMove _ _ _ _ _ s
    · exact Event.freeAndDecide s

theorem Event.claimantAnswer (b : Claimant) (c : Call) (a : Answer) (hf : s.line.flight ≠ .free) :
    Event x s (s.claimantAnswer b c a) := by
  cases b with
  | walker => exact Event.walkerAnswer c a hf
  | rollCaller => exact Event.rollAnswer c a hf
  | requestUnit => exact Event.requestAnswer c a hf

/-! ### Calls sent and the line clear (R38, R46, R49, R153) -/

theorem Event.releaseSent (n : Name) (s : State) : Event x s (s.releaseSent n) :=
  ((Event.dir (.releaseSent x n s)).trans (Event.freeLine _)).trans (Event.decideGrant _)

theorem Event.tellWalkerClear (s : State) : Event x s s.tellWalkerClear := by
  unfold State.tellWalkerClear
  split
  · exact Event.walkerLineClear s
  · exact Event.give _ s

theorem State.stableAll_line_comm (f : Name → Entry → Option Entry) (l : LineUnit) (s : State) :
    State.stableAll f { s with line := l } = { s.stableAll f with line := l } := by
  unfold State.stableAll
  have hs : ∀ n, ({ s with line := l } : State).entry n = s.entry n := fun _ => rfl
  simp only [hs]
  generalize (allNames.any fun n => (f n (s.entry n)).isSome) = b
  generalize Vector.ofFn _ = v
  cases b <;> rfl

/-- The line clear empties the release list, and no entry owes a release then (R46, R95). -/
theorem DirChange.lineClear (x : Exempt) (s : State) :
    DirChange x s (State.directoryLineClear { s with line := { s.line with releases := [] } }) := by
  have d : OnlyDir s s.directoryLineClear := OnlyDir.stableAll _ s
  have he : State.directoryLineClear { s with line := { s.line with releases := [] } } =
      { s.directoryLineClear with line := { s.line with releases := [] } } := State.stableAll_line_comm _ _ s
  rw [he]
  exact .directoryLineClear ⟨d.cm, d.feed, d.walker, d.roll, d.req, rfl, d.recGen, d.serving, d.given, fun _ => .nil⟩ rfl
    fun _ => rfl

theorem Event.clearSent (s : State) : Event x s s.clearSent :=
  ((((Event.dir (.lineClear x s)).trans (Event.tellWalkerClear _)).trans (Event.give _ _)).trans (Event.freeLine _)).trans
    (Event.decideGrant _)

end Sys2Proof.Machine
end

section
/-! PROOFS. Every command but the hard reset is a chain of changes. -/

namespace Sys2Proof.Machine

variable {s t u : State} {x : Exempt}

/-! ### The coupling monitor's and the feed supervisor's changes -/

/-- A change of the monitor with what it shows in the record, and the notices given with it. -/
theorem Event.monitor {c : CouplingMonitor} {l : List Instr} (h : MonitorFits x s c s.dir.serving l) :
    Event x s ((s.setMonitor c).give l) := by
  refine (Event.of (.monitor c s.dir.serving s.dir.ackMask l h)).trans ?_
  unfold State.setMonitor
  split
  · exact .refl
  · exact Event.recordChange .coupling _

theorem State.give_nil (s : State) : s.give [] = s := by
  show { s with given := s.given ++ [] } = s
  rw [List.append_nil]

theorem Event.monitorAlone {c : CouplingMonitor} (h : MonitorFits x s c s.dir.serving []) :
    Event x s (s.setMonitor c) := by
  have := Event.monitor h
  rwa [State.give_nil] at this

/-- A monitor that stays where it is, or goes on among the states in which no coupling was. -/
theorem MonitorFits.stays {c : CouplingMonitor} (l : List Instr)
    (hl : s.cm.state.lineOn = true → c.state.lineOn = true) (hs : s.cm.state = .serving → c.state = .serving)
    (hc : s.cm.state.coupled = true → c.state.coupled = true) : MonitorFits x s c s.dir.serving l :=
  ⟨fun _ => .inl ⟨hl, hs⟩, fun _ => .inl hc, .inl⟩

theorem CouplingState.coupled_of_lineOn {c : CouplingState} (h : c.lineOn = true) : c.coupled = true := by
  cases c <;> first | rfl | cases h

/-- Where no coupling stands, any state may follow. -/
theorem MonitorFits.uncoupled {c : CouplingMonitor} (l : List Instr) (h : s.cm.state.coupled = false) :
    MonitorFits x s c s.dir.serving l := by
  have hc : ¬ s.cm.state.coupled = true := by simp [h]
  refine .stays l (fun hl => ?_) (fun hs => ?_) fun h => absurd h hc
  · exact absurd (CouplingState.coupled_of_lineOn hl) hc
  · exact absurd (by rw [hs]; rfl) hc

/-- The monitor's other fields change. -/
theorem MonitorFits.sameState {c : CouplingMonitor} (l : List Instr) (h : c.state = s.cm.state) :
    MonitorFits x s c s.dir.serving l := by
  refine .stays l ?_ ?_ ?_ <;> rw [h] <;> exact id

theorem lossToLineSide_lossGiven (st : CouplingState) (r : LossReason) : lossToLineSide (lossGiven st r) r := by
  simp [lossToLineSide, lossGiven, lossNotices]

theorem feedCouplingLost_mem_lossGiven (st : CouplingState) (r : LossReason) :
    .feedCouplingLost r ∈ lossGiven st r := by
  simp [lossGiven, lossNotices]

/-- The monitor gives the notices of a loss. -/
theorem MonitorFits.loses {c : CouplingMonitor} (st : CouplingState) (r : LossReason) {l : List Instr}
    (h : ∀ a ∈ lossGiven st r, a ∈ l) : MonitorFits x s c s.dir.serving l where
  lost _ := by
    obtain ⟨h1, h2, h3, h4⟩ := lossToLineSide_lossGiven st r
    exact .inr ⟨r, h _ h1, h _ h2, h _ h3, h _ h4⟩
  feeds _ := .inr (.inl ⟨r, h _ (feedCouplingLost_mem_lossGiven st r)⟩)
  mark := .inl

/-- A monitor change that neither the record nor a notice shows. -/
theorem Event.monitorTimers {c : CouplingMonitor} (h : c.state = s.cm.state) : Event x s { s with cm := c } := by
  have : { s with cm := c } = { s with
      cm := c, dir := { s.dir with serving := s.dir.serving, ackMask := s.dir.ackMask }, given := s.given ++ [] } := by
    rw [List.append_nil]
  rw [this]
  exact .of (.monitor c _ _ [] (.sameState [] h))

theorem Event.decouple (k : Contact) (closed : Bool) (s : State) : Event x s (s.decouple k closed) :=
  Event.monitor (.loses _ _ fun _ => id)

theorem Event.enterFaulted (cause : FaultCause) (s : State) : Event x s (s.enterFaulted cause) :=
  Event.monitor (.loses _ _ fun _ => List.mem_cons_of_mem _)

theorem CouplingMonitor.record_state (k : Contact) (closed : Bool) (c : CouplingMonitor) :
    (c.record k closed).state = c.state := by
  cases k <;> rfl

theorem Event.edge (k : Contact) (closed : Bool) (s : State) : Event x s (s.edge k closed) := by
  unfold State.edge
  split
  · exact Event.monitorTimers (by cases k <;> rfl)
  · rename_i h; exact Event.monitor (.uncoupled _ (by rw [h]; rfl))
  · rename_i h; exact Event.monitorAlone (.uncoupled _ (by rw [h]; rfl))
  · exact Event.decouple k closed s
  · exact Event.decouple k closed s
  · exact Event.decouple k closed s
  · exact Event.monitorAlone (.sameState _ (CouplingMonitor.record_state k closed s.cm))

theorem Event.settled (h : s.cm.state = .making) : Event x s s.settled := by
  have hc : s.cm.state.coupled = false := by rw [h]; rfl
  unfold State.settled; dsimp only
  split
  · exact Event.monitor (.uncoupled _ hc)
  · exact Event.monitor (.uncoupled _ hc)
  · exact Event.monitorAlone (.uncoupled _ hc)

theorem Event.monitorRearm (h : s.cm.state = .faulted) : Event x s s.monitorRearm := by
  have hc : s.cm.state.coupled = false := by rw [h]; rfl
  unfold State.monitorRearm
  split
  · exact Event.monitor (.uncoupled _ hc)
  · exact Event.monitor (.uncoupled _ hc)

/-- RUN entry finds the coupling DORMANT (R2). -/
theorem Event.monitorEntry (h : x = .coupling ∨ s.cm.state = .dormant) : Event x s s.monitorEntry := by
  have hfits : ∀ c l, MonitorFits x s c s.dir.serving l := fun c l => by
    obtain h | h := h
    · exact ⟨fun hx => absurd h hx, fun hx => absurd h hx, .inl⟩
    · exact .uncoupled _ (by rw [h]; rfl)
  unfold State.monitorEntry; dsimp only
  split
  · exact Event.monitor (hfits _ _)
  · exact Event.monitor (hfits _ _)

/-- The coupling enters SERVING, and the directory unit's mark is set with it (log 41). -/
theorem Event.enterServing {c : CouplingMonitor} (h : c.state = .serving) (l : List Instr) (s : State) :
    Event x s ((s.directoryServes.setMonitor c).give l) := by
  have hfits : MonitorFits x s c true l := by
    refine ⟨fun _ => .inl ⟨fun _ => ?_, fun _ => h⟩, fun _ => .inl fun _ => ?_, fun _ => .inr h⟩ <;> rw [h] <;> rfl
  refine (Event.of (.monitor c true s.dir.ackMask l hfits)).trans ?_
  unfold State.setMonitor
  split
  · exact .refl
  · exact Event.recordChange .coupling _

theorem Event.passEnd (followUp : Bool) (s : State) : Event x s (match s.cm.state with
    | .discovering => (s.directoryServes.setMonitor { s.cm.retry followUp with state := .serving }).give
        [.rollServingNotice, .lineServingNotice, .requestServingNotice]
    | .serving => s.setMonitor (s.cm.retry followUp)
    | _ => s) := by
  split
  · exact Event.enterServing rfl _ s
  · exact Event.monitorAlone (.sameState _ (by cases followUp <;> rfl))
  · exact .refl

/-- What the feeds may come to: LOGIC on or a capture only where one of them was before, or in a coupling (R22, R25). -/
def FeedFits (s : State) (f : FeedSupervisor) : Prop :=
  f.logicOn = true ∨ f.capture ≠ none → s.feed.logicOn = true ∨ s.feed.capture ≠ none ∨ s.cm.state.coupled = true

theorem Event.setFeed (a : Alert) {f : FeedSupervisor} (h : FeedFits s f) : Event x s (s.setFeed a f) := by
  refine (Event.of (.feed f h)).trans ?_
  unfold State.setFeed
  split
  · exact .refl
  · exact Event.recordChange a _

theorem Event.feed {f : FeedSupervisor} (h : FeedFits s f) : Event x s { s with feed := f } := .of (.feed f h)

theorem Event.feedPort {f : FeedSupervisor} {p : ExchangePort} (h : FeedFits s f)
    (hp : genEven p.recGen = genEven s.port.recGen) : Event x s { s with feed := f, port := p } :=
  (Event.feed h).trans (Event.port p hp)

theorem FeedFits.same {f : FeedSupervisor} (h1 : f.logicOn = true → s.feed.logicOn = true)
    (h2 : f.capture ≠ none → s.feed.capture ≠ none) : FeedFits s f := fun h => h.imp h1 fun h => .inl (h2 h)

theorem Event.feedsOff (a : Alert) {f : FeedSupervisor} (h1 : f.logicOn = false) (h2 : f.capture = none) (s : State) :
    Event x s (s.setFeed a f) :=
  Event.setFeed a (.same (by simp [h1]) (by simp [h2]))

theorem Event.feedLoss (r : LossReason) (s : State) : Event x s (s.feedLoss r) := Event.feedsOff _ rfl rfl s

theorem State.feedLoss_off (r : LossReason) (s : State) :
    (s.feedLoss r).feed.logicOn = false ∧ (s.feedLoss r).feed.capture = none := by
  simp [State.feedLoss]

/-- The notice of the feeds' own loss is taken with it. -/
theorem Event.feedCouplingLost (r : LossReason) (s : State) :
    Event x s ((s.take (.feedCouplingLost r)).feedLoss r) := by
  have h : (s.take (.feedCouplingLost r)).feedLoss r = (s.feedLoss r).take (.feedCouplingLost r) := by
    simp only [State.feedLoss, State.setFeed_eq]; rfl
  rw [h]
  exact (Event.feedLoss r s).trans (Event.take _ (s.feedLoss_off r))

theorem Event.compareSample (a b : BitVec 12) (s : State) : Event x s (s.compareSample a b) := by
  unfold State.compareSample; dsimp only
  split
  · refine Relation.ReflTransGen.trans (Event.setFeed .trip (.same ?_ ?_)) (Event.give _ _)
    · simp [FeedSupervisor.tripB]
    · exact id
  · split
    · exact Event.setFeed .trip (.same id id)
    · exact Event.feed (.same id id)

theorem Event.captureSample {c : Capture} (a b : BitVec 12) (h : s.feed.capture = some c) :
    Event x s (s.captureSample c a b) := by
  have hfits : ∀ f, FeedFits s f := fun f _ => .inr (.inl (by simp [h]))
  unfold State.captureSample; dsimp only
  split
  · exact (Event.setFeed .coupling (hfits _)).trans (Event.give _ _)
  · exact Event.feed (hfits _)

theorem Event.sample (a b : BitVec 12) (s : State) : Event x s (match s.feed.capture with
    | some c => s.captureSample c a b
    | none => if s.feed.discard then { s with feed := { s.feed with discard := false } } else s.compareSample a b) := by
  split
  · rename_i h; exact Event.captureSample a b h
  · split
    · exact Event.feed (.same id id)
    · exact Event.compareSample a b s

theorem Event.doDrive (a : Word) (s : State) : Event x s (s.doDrive a).1 := by
  unfold State.doDrive
  repeat' split
  all_goals first
    | exact .refl
    | exact Event.setFeed .coupling (.same id id)

theorem Event.doRearm (s : State) : Event x s s.doRearm.1 := by
  have h : ∀ u : State, Event x u (u.setFeed .coupling u.feed.rearmed) := fun u => Event.setFeed .coupling (.same id id)
  unfold State.doRearm
  split
  · dsimp only
    split
    · rename_i hf; exact (Event.monitorRearm hf).trans (h _)
    · exact h s
  · exact .refl

theorem Event.doLimits (a b c d e : Word) (s : State) : Event x s (s.doLimits a b c d e).1 := by
  rw [State.doLimits_eq]
  exact Event.feedPort (fun h => h.imp id .inl) rfl

/-! ### Values in force (R120, R130, R161) -/

/-- New limits in force, with the live fields lowered to them. -/
theorem Event.lowered {r : RollCaller} {v : Vector Entry 62} {o : Option Offer}
    (hr : r = { s.roll with rollMs := r.rollMs, strikeLimit := r.strikeLimit, keepRounds := r.keepRounds })
    (hv : v = Vector.ofFn fun n => (s.entry n).lowered r.strikeLimit r.keepRounds)
    (ho : o = s.dir.offer.map (Offer.lowered r.keepRounds)) (hb : 1 ≤ r.strikeLimit) (hc : 1 ≤ r.keepRounds) :
    Event x s { s with roll := r, dir := { s.dir with entries := v, offer := o } } := by
  refine .of (.limits _ ⟨rfl, rfl, rfl, rfl, hr, rfl, rfl, rfl, rfl, fun n => ?_, ho, hb, hc⟩)
  subst hv
  simp [State.entry]

theorem Event.walkerSettings {w : Walker} (hs : s.walker.sound → w.sound)
    (hst : w.state ≠ .idle → s.walker.state ≠ .idle) : Event x s { s with walker := w } :=
  WalkerChange.event (.walker w hs) fun h => .inl (hst h)

theorem Walker.setSweepRounds_state (v : Nat) (w : Walker) (h : (w.setSweepRounds v).state ≠ .idle) :
    w.state ≠ .idle := by
  unfold Walker.setSweepRounds at h
  dsimp only at h
  split at h
  · exact absurd rfl h
  · exact h

theorem one_le_clampWord {hi : Nat} (h1 : 1 ≤ hi) (hhi : hi < 65536) (w : Word) : 1 ≤ (clampWord 1 hi w).toNat := by
  rw [clampWord_toNat hhi h1]; omega

theorem Event.doRetime (a b c d : Word) (s : State) : Event x s (s.doRetime a b c d).1 := by
  have hb := one_le_clampWord (hi := 15) (by omega) (by omega) b
  have hc := one_le_clampWord (hi := 255) (by omega) (by omega) c
  rw [State.doRetime_eq]
  generalize hv : (Vector.ofFn fun n => (s.entry n).lowered (clampWord 1 15 b).toNat (clampWord 1 255 c).toNat) = v
  generalize ho : s.dir.offer.map (Offer.lowered (clampWord 1 255 c).toNat) = o
  generalize hr : ({ s.roll with
    rollMs := (clampWord 10 10000 a).toNat, strikeLimit := (clampWord 1 15 b).toNat
    keepRounds := (clampWord 1 255 c).toNat } : RollCaller) = r
  have h1 : Event x s { s with roll := r, dir := { s.dir with entries := v, offer := o } } := by
    subst hr
    exact Event.lowered rfl hv.symm ho.symm hb hc
  have h2 := h1.trans (Event.walkerSettings (w := s.walker.setSweepRounds (clampWord 0 255 d).toNat) id
      (Walker.setSweepRounds_state _ _))
  exact h2.trans (Event.port _ rfl)

/-- Each block takes its values in force (R161 step 2). -/
theorem Event.takeValues (hb : 1 ≤ s.port.params.strikeLimit.toNat) (hc : 1 ≤ s.port.params.keepRounds.toNat) :
    Event x s (s.takeValues.lowerLive s.takeValues.roll.strikeLimit s.takeValues.roll.keepRounds) := by
  have h1 : Event x s { s with
      cm := s.takeValues.cm, dir := { s.dir with serving := s.dir.serving, ackMask := s.takeValues.dir.ackMask }
      given := s.given ++ [] } := .of (.monitor _ _ _ [] (.sameState [] rfl))
  rw [List.append_nil] at h1
  have h2 := h1.trans (Event.of (.feed s.takeValues.feed (FeedFits.same id id)))
  have h3 := h2.trans (Event.of (.line s.takeValues.line ⟨rfl, fun inv => ⟨inv.flight, inv.held, inv.heldCount,
    inv.heldBelow, inv.serving, inv.releases, inv.windows⟩, .inl, .inl, fun _ _ => id, fun _ => .inl⟩))
  have h4 := h3.trans (Event.walkerSettings (w := s.takeValues.walker) id id)
  have h5 := h4.trans (Event.of (.port s.port s.takeValues.callRetries s.pending rfl))
  have h6 := h5.trans (Event.of (.req s.takeValues.req fun inv => ⟨inv.once, inv.waiting, inv.timers, inv.latched,
    inv.reseat, inv.result⟩))
  unfold State.lowerLive
  generalize hv : (Vector.ofFn fun n => (s.takeValues.entry n).lowered s.takeValues.roll.strikeLimit
    s.takeValues.roll.keepRounds) = v
  generalize ho : s.takeValues.dir.offer.map (Offer.lowered s.takeValues.roll.keepRounds) = o
  exact h6.trans (Event.lowered (r := s.takeValues.roll) rfl hv.symm ho.symm hb hc)

theorem Event.evaluateSeen (l : List Name) (s : State) : Event x s (State.evaluateSeen l s) := by
  induction l generalizing s with
  | nil => exact .refl
  | cons n rest ih => exact (Event.dir (.acknowledge x n _ s)).trans (ih _)

theorem Event.enterRun (h : x = .coupling ∨ s.cm.state = .dormant) : Event x s s.enterRun := by
  have hclamp : Event x s s.clampSettings := by rw [State.clampSettings_eq]; exact Event.port _ rfl
  have hvals : ∀ w : State, w = s.clampSettings → 1 ≤ w.port.params.strikeLimit.toNat ∧
      1 ≤ w.port.params.keepRounds.toNat := by
    rintro _ rfl
    rw [State.clampSettings_eq]
    exact ⟨one_le_clampWord (by omega) (by omega) _, one_le_clampWord (by omega) (by omega) _⟩
  obtain ⟨hb, hc⟩ := hvals _ rfl
  have hdecide : ∃ u : State, Event x s u ∧ u.kept = s.clampSettings.takeValues.kept ∧ s.enterRun = u.monitorEntry :=
    ⟨_, Event.decideIfJoined s.clampSettings.takeValues
      ((hclamp.trans (Event.takeValues hb hc)).trans (Event.evaluateSeen allNames _)),
      by rw [State.decideIfJoined_kept, State.evaluateSeen_kept, State.lowerLive_kept], by rw [State.enterRun]⟩
  obtain ⟨u, hu, hk, he⟩ := hdecide
  have hcm : s.clampSettings.takeValues.cm.state = s.cm.state := by rw [State.clampSettings_eq]; rfl
  rw [he]
  exact hu.trans (Event.monitorEntry (h.imp_right fun h =>
    (congrArg (fun k : Kept => k.cm.state) hk).trans (hcm.trans h)))

/-! ### Soft hold (R19, R162) -/

theorem Event.softHold (s : State) : Event x s s.softHold := by
  have hrun : Event x s { s with port := { s.port with run := false } } := Event.port _ rfl
  unfold State.softHold; dsimp only
  split
  · exact hrun
  · refine (hrun.trans (Event.feedLoss .hold _)).trans (Event.monitor ⟨fun _ => .inr ⟨.hold, ?_⟩,
      fun _ => .inr (.inr (State.feedLoss_off ..)), .inl⟩)
    simp [lossToLineSide, lossGiven, lossNotices]

/-! ### Posts (R145 to R155) -/

theorem Event.oweClear (s : State) : Event x s { s with line := { s.line with clearOwed := true } } :=
  .of (.line _ ⟨rfl, fun inv => ⟨inv.flight, inv.held, inv.heldCount, inv.heldBelow, inv.serving, inv.releases,
    inv.windows⟩, .inl, .inl, fun _ _ => id, fun _ => .inl⟩)

theorem Event.judgeReseat {k : SlotNo} (hk : (s.slot k).phase ≠ .waiting) : Event x s (s.judgeReseat k) := by
  unfold State.judgeReseat
  split
  · dsimp only
    have h1 : Event x s (s.putSlot k { s.slot k with
        phase := .onLine, result := .ok, latched := some .reseat, wait := none }) := by
      refine .of (.req _ fun inv => ?_)
      refine inv.of_slot k _ (s.slot_putSlot k · _) inv.once (fun _ _ => .rfl) ?_ ?_
      · simp only [reduceCtorEq, iff_false]
        exact fun hm => hk ((inv.waiting k).1 hm)
      · simp [Slot.sound]
    exact (h1.trans (Event.oweClear _)).trans (Event.decideGrant _)
  · exact Event.completeRequest k _ _ s

theorem Event.judgeLine {k : SlotNo} {q : LineRequest} (hk : (s.slot k).phase ≠ .waiting) (hq : q ≠ .reseat) :
    Event x s (s.judgeLine k q) := by
  unfold State.judgeLine
  split
  · exact (Event.waitForLine k q hk hq).trans (Event.decideGrant _)
  · split
    · exact Event.completeRequest k _ _ s
    · exact (Event.waitForLine k q hk hq).trans (Event.decideGrant _)
  · exact Event.completeRequest k _ _ s

theorem Event.doSearch (s : State) : Event x s s.doSearch.1 := by
  unfold State.doSearch
  split
  · exact Event.takePassWanted s
  · exact .refl

theorem Event.judgeRequest {k : SlotNo} (hk : (s.slot k).phase ≠ .waiting) (q : Request) :
    Event x s (s.judgeRequest k q) := by
  unfold State.judgeRequest; dsimp only
  split
  · exact Event.judgeReseat hk
  · exact Event.judgeLine hk (by assumption)
  · exact Event.decideIfJoined s ((Event.dir (.forget x _ s)).trans (Event.completeRequest ..))
  · exact (Event.doSearch s).trans (Event.completeRequest ..)
  · exact (Event.doRetime _ _ _ _ s).trans (Event.completeRequest ..)
  · exact (Event.doLimits _ _ _ _ _ s).trans (Event.completeRequest ..)
  · exact (Event.doDrive _ s).trans (Event.completeRequest ..)
  · exact (Event.doRearm s).trans (Event.completeRequest ..)

theorem Event.judgeAccepted {k : SlotNo} (hk : (s.slot k).phase ≠ .waiting) : Event x s (s.judgeAccepted k) := by
  unfold State.judgeAccepted
  split
  · split
    · exact Event.completeRequest ..
    · exact Event.judgeRequest hk _
  · exact Event.completeRequest ..

theorem Event.post (k : SlotNo) (ticket : Byte) (s : State) : Event x s (s.post k ticket) := by
  unfold State.post; dsimp only
  refine (Event.storeAsk k (askWord 1 ticket) s).trans ?_
  generalize s.storeAsk k (askWord 1 ticket) = u
  split
  · rename_i h
    refine (Event.putSlot k { u.slot k with ticket := ticket } rfl rfl rfl rfl).trans (Event.judgeAccepted ?_)
    rw [State.slot_putSlot, if_pos rfl]
    simp only [Slot.accepts, decide_eq_true_eq] at h
    rcases h.2.2 with h | h <;> simp [h]
  · exact Event.raise .misuse u

theorem Event.withdrawAsk (k : SlotNo) (ticket : Byte) (s : State) : Event x s (s.withdrawAsk k ticket) := by
  unfold State.withdrawAsk; dsimp only
  refine (Event.storeAsk k (askWord 2 ticket) s).trans ?_
  split
  · exact Event.raise .misuse _
  · split
    · exact Event.completeRequest ..
    · exact .refl

theorem Event.badAsk (k : SlotNo) (intent : Nat) (ticket : Byte) (s : State) : Event x s (s.badAsk k intent ticket) :=
  (Event.storeAsk k _ s).trans (Event.raise .misuse _)

theorem Event.requestWaitExpiry (k : SlotNo) (s : State) :
    Event x s (if (s.slot k).phase = .waiting ∧ (s.slot k).wait.isSome = true then
      s.completeRequest k .timedOut [] else s) := by
  split
  · exact Event.completeRequest ..
  · exact .refl

/-! ### Host writes (R134 to R141) -/

theorem Event.writeSeen (n : Name) (v : Word) (s : State) : Event x s (s.writeSeen n v) := by
  unfold State.writeSeen; dsimp only
  have h : Event x s { s with port := { s.port with seen := s.port.seen.set n.val v n.isLt } } := Event.port _ rfl
  split
  · exact Event.decideIfJoined _ (h.trans (Event.dir (.acknowledge x n v _)))
  · exact h

/-- In HOLD the coupling is DORMANT (R2). -/
theorem Event.writeRunOne (h : x = .coupling ∨ MonitorInv s) : Event x s s.writeRunOne := by
  unfold State.writeRunOne
  split
  · exact .refl
  · rename_i hr
    exact Event.enterRun (h.imp_right fun inv => inv.hold.1 (by simpa using hr))

theorem Event.writeRunZero (s : State) : Event x s s.writeRunZero := by
  unfold State.writeRunZero
  split
  · exact Event.softHold s
  · exact .refl

theorem Slot.write_kept (c : Slot) (v : Word) (k : Nat) : (c.write v k).phase = c.phase ∧
    (c.write v k).result = c.result ∧ (c.write v k).latched = c.latched ∧ (c.write v k).wait = c.wait := by
  unfold Slot.write
  split
  · exact ⟨rfl, rfl, rfl, rfl⟩
  · exact ⟨rfl, rfl, rfl, rfl⟩
  · exact ⟨rfl, rfl, rfl, rfl⟩
  · split <;> exact ⟨rfl, rfl, rfl, rfl⟩

theorem Event.writeAsk (k : SlotNo) (v : Word) (s : State) : Event x s (s.writeAsk k v) := by
  unfold State.writeAsk
  split
  · exact Event.post ..
  · exact Event.withdrawAsk ..
  · exact Event.badAsk ..

theorem Event.storeWord (a : Area) (v : Word) (h : x = .coupling ∨ MonitorInv s) : Event x s (s.storeWord a v) := by
  unfold State.storeWord
  split
  · exact Event.port _ rfl
  · exact Event.port _ rfl
  · exact Event.writeSeen ..
  · rename_i j k
    split
    · exact Event.writeAsk ..
    · obtain ⟨h1, h2, h3, h4⟩ := (s.slot j).write_kept v k
      exact Event.putSlot j _ h1 h2 h3 h4
  · split
    · exact Event.writeRunOne h
    · exact Event.writeRunZero s
  · exact Event.port _ rfl
  · exact Event.port _ rfl
  all_goals exact .refl

/-! ### The line unit's notices (R37, R47, R53, R165) -/

theorem State.lineStandDown_take (r : LossReason) (s : State) :
    (s.take (.lineCouplingLost r)).lineStandDown = s.lineStandDown.take (.lineCouplingLost r) := by
  unfold State.lineStandDown
  exact State.take_give (by simp only [State.take_line]; split <;> simp) { s with line := _ }

theorem Event.lineCouplingLost (r : LossReason) (s : State) :
    Event x s (s.take (.lineCouplingLost r)).lineStandDown := by
  rw [State.lineStandDown_take]
  exact (Event.lineStandDown s).trans (Event.take _ ⟨rfl, rfl⟩)

theorem Event.lineActive (h : s.cm.state.lineOn = true) : Event x s { s with line := { s.line with
    active := true, serving := false, clearOwed := true
    heldRunning := true, heldCount := 0, pointer := .requestUnit } } :=
  .of (.line _ ⟨rfl, fun inv => ⟨fun _ => rfl, fun _ => rfl, Nat.zero_le _, fun _ => (by simp), fun h => (by cases h),
    inv.releases, inv.windows⟩, fun _ => .inr h, fun h => (by cases h), fun _ _ => id, fun _ => .inl⟩)

theorem Event.lineServing (ha : s.line.active = true) (h : s.cm.state = .serving) :
    Event x s { s with line := { s.line with serving := true } } :=
  .of (.line _ ⟨rfl, fun inv => ⟨inv.flight, inv.held, inv.heldCount, inv.heldBelow, fun _ => ha, inv.releases,
    inv.windows⟩, .inl, fun _ => .inr h, fun _ _ => id, fun _ => .inl⟩)

/-- Counting bit times changes the count alone, and keeps it below 64 while it runs (R47). -/
theorem LineUnit.countBits_keeps (bits : List LineBit) (l : LineUnit) : ∃ k r, l.countBits bits =
    { l with heldCount := k, heldRunning := r } ∧ (r = true → l.heldRunning = true) ∧
    (l.heldCount ≤ 64 → k ≤ 64) ∧ ((l.heldRunning = true → l.heldCount < 64) → r = true → k < 64) := by
  induction bits generalizing l with
  | nil => exact ⟨_, _, rfl, id, id, id⟩
  | cons b rest ih =>
    unfold LineUnit.countBits
    split
    · rename_i hr
      dsimp only
      obtain ⟨k, r, he, h1, h2, h3⟩ := ih { l with
        heldCount := heldAfterBit l.heldCount b
        heldRunning := decide (heldAfterBit l.heldCount b < Config.heldLimit) }
      refine ⟨k, r, he, fun _ => hr, fun hc => h2 ?_, fun _ => h3 fun h => of_decide_eq_true h⟩
      cases b with
      | driven => exact hc
      | low => exact Nat.min_le_left _ _
      | high => exact Nat.zero_le _
    · exact ⟨_, _, rfl, id, id, id⟩

theorem Event.countHeld (bits : List LineBit) (s : State) : Event x s (s.countHeld bits) := by
  obtain ⟨k, r, he, h1, h2, h3⟩ := s.line.countBits_keeps (s.lineBits bits)
  have h : Event x s { s with line := s.line.countBits (s.lineBits bits) } := by
    rw [he]
    exact .of (.line _ ⟨rfl, fun inv => ⟨inv.flight, fun h => inv.held (h1 h), h2 inv.heldCount, h3 inv.heldBelow,
      inv.serving, inv.releases, inv.windows⟩, .inl, .inl, fun _ _ => id, fun _ => .inl⟩)
  unfold State.countHeld; dsimp only
  split
  · exact h.trans (Event.give _ _)
  · exact h

/-! ### The roll caller's commands (R121 to R132) -/

theorem Event.rollExpiry (h : s.roll.timer.isSome = true) : Event x s s.rollExpiry := by
  have htimer : s.roll.timer ≠ none := fun h0 => by simp [h0] at h
  have hrest : s.roll.resting := fun h0 => absurd h0 htimer
  have h1 : ∀ y, RollFits y s { s.roll with timer := some s.roll.rollMs } := fun y =>
    ⟨rfl, rfl, fun inv => ⟨inv.due, inv.round, inv.owed⟩, fun _ _ hb => hb, fun _ => .inl htimer,
      fun _ _ h0 => (by cases h0), fun _ _ _ h0 => h0⟩
  unfold State.rollExpiry; dsimp only
  split
  · rename_i hp
    refine .of (.roll _ ⟨rfl, rfl, fun inv => ⟨inv.due, inv.round, fun _ => hp⟩, fun _ _ hb => hb, fun _ => .inl htimer,
      fun _ _ h0 => (by cases h0), fun _ _ _ h0 => h0⟩)
  · rename_i hp
    have hround : ∀ y, (y ≠ .abandoned → s.dueNames ≠ []) → RollFits y s { s.roll with
        timer := some s.roll.rollMs, round := s.roll.round + 1, due := s.dueNames, inProgress := true } := fun y hy =>
      ⟨rfl, rfl, fun inv => ⟨s.dueNames_sorted, fun _ => rfl, fun _ => rfl⟩, fun hx _ _ _ => hy hx,
        fun _ => .inl htimer, fun _ _ h0 => (by cases h0), fun _ _ _ h0 => h0⟩
    have hbegin : Event x s (State.beginRound { s with roll := { s.roll with timer := some s.roll.rollMs } }) := by
      unfold State.beginRound; dsimp only
      split
      · rename_i hd
        refine Event.endRound (hround .abandoned fun h => absurd rfl h) hd (fun inv ho => ?_) fun _ _ _ h => h
        exact inv.owed ho
      · rename_i hd
        exact Event.of (.roll _ (hround x fun _ => hd))
    split
    · exact hbegin
    · exact hbegin.trans (Event.decideGrant _)

theorem Event.rollServing (h : s.rollMayStart = true) :
    Event x s { s with roll := { s.roll with timer := some s.roll.rollMs } } := by
  simp only [State.rollMayStart, Bool.and_eq_true, decide_eq_true_eq] at h
  exact .of (.roll _ ⟨rfl, rfl, fun inv => ⟨inv.due, inv.round, inv.owed⟩, fun _ _ hb => hb, fun _ => .inr h.1,
      fun _ _ h0 => (by cases h0), fun _ _ _ h0 => h0⟩)

theorem Event.rollCouplingLost (r : LossReason) (h : x = .abandoned ∨ s.roll.hand = none) :
    Event x s (s.take (.rollCouplingLost r)).rollLoss := by
  have hr : (s.take (.rollCouplingLost r)).rollLoss = s.rollLoss.take (.rollCouplingLost r) := rfl
  rw [hr]
  refine Relation.ReflTransGen.trans (Event.of (.roll _ ?_)) (Event.take _ rfl)
  exact ⟨rfl, rfl, fun _ => ⟨List.Pairwise.nil, fun h => absurd rfl h, fun h => by cases h⟩,
    fun _ _ _ h => (by cases h), fun h => absurd rfl h, fun _ _ _ => ⟨rfl, rfl⟩,
    fun hx _ _ _ => h.resolve_left hx⟩

theorem Event.rollAbandoned (h : x = .abandoned ∨ s.roll.hand = none) : Event x s s.rollAbandoned := by
  unfold State.rollAbandoned
  split
  · rename_i c hc
    obtain rfl : x = .abandoned := h.resolve_right (by simp [hc])
    refine .of (.roll _ ⟨rfl, rfl, fun inv => ⟨inv.due.filter _, fun hne => inv.round fun h0 => hne ?_, inv.owed⟩,
      fun hx => absurd rfl hx, .inl, fun _ hr ht => ⟨(hr ht).1, rfl⟩, fun hx => absurd rfl hx⟩)
    simp [h0]
  · exact .refl

/-! ### The walker's commands (R99, R113, R114) -/

theorem Event.retryDue (s : State) : Event x s (match s.walker.state with
    | .idle => s.startFurther.decideGrant
    | .sweepDue => s.startFurther.decideGrant
    | .sweeping => { s with walker := { s.walker with owed := true } }
    | .awaitClear => s
    | .walking => s) := by
  split
  · exact (Event.startFurther s).trans (Event.decideGrant _)
  · exact (Event.startFurther s).trans (Event.decideGrant _)
  · exact Event.walkerSettings id id
  · exact .refl
  · exact .refl

theorem Event.roundEnd (h : s.cm.state = .serving) :
    Event x s (if s.walker.countRound.sweepNow then
      State.decideGrant { s with walker := { s.walker.countRound with state := .sweepDue } }
      else { s with walker := s.walker.countRound }) := by
  have hs : ∀ st, WalkerChange s { s with walker := { s.walker.countRound with state := st } } := fun st =>
    .walker _ fun ⟨h1, h2, h3, h4, h5, _⟩ => ⟨h1, h2, h3, h4, h5, Nat.min_le_left _ _⟩
  have hon : s.cm.state.lineOn = true := by rw [h]; rfl
  split
  · exact ((hs .sweepDue).event fun _ => .inr hon).trans (Event.decideGrant _)
  · exact (hs s.walker.state).event fun _ => .inr hon

/-! ### Calls sent (R38, R153) -/

theorem State.entry_vacate (n m : Name) (s : State) : (s.vacate n).entry m =
    if n = m then { vacantEntry false with gen := genAfter (s.entry n).gen } else s.entry m :=
  s.entry_stableEntry n m (vacantEntry false)

/-- A change of the entries that only a sound directory has to make sound. -/
theorem DirChange.of_unsound (h : ¬ DirInv s) (frame : DirFrame s t)
    (gen : ∀ n, genEven (t.entry n).gen = genEven (s.entry n).gen) : DirChange x s t :=
  ⟨frame, gen, fun inv => absurd inv h, fun inv => absurd inv h, fun _ inv => absurd inv h, fun _ inv => absurd inv h⟩

/-- The release report of a MOVE vacates the one entry and offers the other to its identity (R89 point 1). -/
theorem Event.takeMoveRelease (n m : Name) (s : State) : Event .owed s (s.takeMoveRelease n m) := by
  unfold State.takeMoveRelease; dsimp only
  split
  case isFalse => exact .refl
  case isTrue h =>
    obtain ⟨hst, hb⟩ := h
    by_cases inv : DirInv s
    · have h1 : Event .owed s (s.vacate n) := Event.dir (.stableEntry n _ (fun _ => .vacantEntry _ n false)
        fun inv => (inv.not_owed (by simp [hb]) (by simp [hb])).symm)
      refine h1.trans (Event.dir (.offer m _ _ .move _ (lineOn_of_serving hst) fun _ => .move (fun j hj hv hi => ?_) ..))
      rw [State.entry_vacate] at hv hi
      by_cases hnj : n = j
      · rw [if_pos hnj] at hv; exact hv rfl
      · rw [if_neg hnj] at hv hi
        exact inv.unique j n (Ne.symm hnj) hv (by simp [hb]) hi
    · refine Event.dir (.of_unsound inv ⟨rfl, rfl, rfl, rfl, rfl, rfl, rfl, fun _ h _ => h, id⟩ fun j => ?_)
      have he := (s.vacate n).entry_stableEntry m j
        { state := .offered, ident := (s.entry n).ident, cls := (s.entry n).cls, role := (s.entry n).role
          devstat := (s.entry n).devstat, outside := !((s.vacate n).classEntry (s.entry n).cls).covers m }
      refine (congrArg (fun e : Entry => genEven e.gen) he).trans ?_
      simp only [State.entry_vacate]
      by_cases hm : m = j
      · subst hm
        by_cases hn : n = m
        · subst hn; simp [genEven_genAfter]
        · simp [hn, genEven_genAfter]
      · by_cases hn : n = j
        · subst hn; simp [hm, genEven_genAfter]
        · simp [hm, hn]

theorem State.takeMoveRelease_line (n m : Name) (s : State) : (s.takeMoveRelease n m).line = s.line := by
  unfold State.takeMoveRelease; dsimp only; split <;> rfl

theorem Event.moveReleaseSent (n : Name) (hf : s.line.flight ≠ .free) : Event .owed s (s.moveReleaseSent n) := by
  have h1 : Event .owed s (s.leaveRelease n) := Event.dir (.leaveRelease n s)
  unfold State.moveReleaseSent; dsimp only
  split
  · refine (h1.trans (Event.takeMoveRelease n _ _)).trans (Event.askAgain .requestUnit _ ?_)
    rw [State.takeMoveRelease_line]; exact hf
  · exact h1.trans (Event.freeAndDecide _)

/-! ### Every command -/

/-- What a command needs to be a chain of changes with the exemption `x`. -/
def exemptFor (x : Exempt) (s : State) : Instr → Prop
  | .callSent => match s.line.flight with
    | .sending _ (.release _) => x = .owed
    | .sending .rollCaller _ => x = .listening ∨ s.roll.hand = none
    | _ => True
  | .groupAbandoned .rollCaller => x = .abandoned ∨ s.roll.hand = none
  | .rollCouplingLost _ => x = .abandoned ∨ s.roll.hand = none
  | .directoryReleaseSent _ => x = .owed
  | .directoryLineClearSent => x = .owed
  | .moveReleaseReport _ _ => x = .owed
  | .rollReport _ rep => x = .live ∨ (LiveInv s → reportInLimits s.roll.strikeLimit s.roll.keepRounds rep)
  | .runEntry => x = .coupling ∨ MonitorInv s
  | .hostWrite _ _ => x = .coupling ∨ MonitorInv s
  | _ => True

theorem Event.listen (b : Claimant) (c : Call) (hf : s.line.flight ≠ .free)
    (h : b = .rollCaller → x = .listening) : Event x s (s.setFlight (.listening b c)) :=
  .of (.line _ (.setFlight _ (fun _ => .inl hf) (by simp)
    (fun hx _ hc => absurd (h (by cases hc; rfl)) hx) (by simp)))

theorem Event.claimantCallSent {b : Claimant} {c : Call} (hf : s.line.flight = .sending b c)
    (hx : exemptFor x s .callSent) (hh : s.rollWithdrawn b = false) : Event x s (s.claimantCallSent b c) := by
  have hfree : s.line.flight ≠ .free := by simp [hf]
  have hroll : (∀ n, c ≠ .release n) → b = .rollCaller → x = .listening := by
    rintro hc rfl
    simp only [State.rollWithdrawn, decide_true, Bool.true_and, Option.isNone_eq_false_iff, Option.isSome_iff_ne_none]
      at hh
    have hx : x = .listening ∨ s.roll.hand = none := by
      cases c with
      | release n => exact absurd rfl (hc n)
      | _ => simpa [exemptFor, hf] using hx
    exact hx.resolve_right hh
  unfold State.claimantCallSent
  split
  · obtain rfl : x = .owed := by simpa [exemptFor, hf] using hx
    exact Event.moveReleaseSent _ hfree
  · exact .of (.line _ (.setFlight _ (fun _ => .inl hfree) (by simp) (by simp) (by simp)))
  all_goals exact Event.listen _ _ hfree (hroll (by simp))

theorem Event.callSent (hx : exemptFor x s .callSent) : Event x s (match s.line.flight with
    | .releasing n => s.releaseSent n
    | .sending b c => if s.rollWithdrawn b then s.freeLine.decideGrant else s.claimantCallSent b c
    | _ => s) := by
  split
  · exact Event.releaseSent _ s
  · rename_i b c hf
    split
    · exact Event.freeAndDecide s
    · rename_i hh; exact Event.claimantCallSent hf hx (by simpa using hh)
  · exact .refl

theorem Event.answerEnd (edges : List LineEdge) (s : State) : Event x s (match s.line.flight with
    | .listening b c => s.claimantAnswer b c (hearAnswer c edges)
    | _ => s) := by
  split
  · rename_i hf; exact Event.claimantAnswer _ _ _ (by simp [hf])
  · exact .refl

theorem Event.windowEnd (edges : List LineEdge) (s : State) : Event x s (match s.line.flight with
    | .windows heard =>
      if windowCount ≤ (heard ++ [hearWindow edges]).length then
        (s.freeLine.handWindows (heard ++ [hearWindow edges])).decideGrant
      else s.setFlight (.windows (heard ++ [hearWindow edges]))
    | _ => s) := by
  split
  · rename_i heard hf
    split
    · exact ((Event.freeLine s).trans (Event.handWindows _ _)).trans (Event.decideGrant _)
    · rename_i hl
      refine .of (.line _ (.setFlight _ (fun _ => .inl (by simp [hf])) (fun w hw => ?_) (by simp) (by simp)))
      cases hw
      exact Nat.lt_of_not_le hl
  · exact .refl

theorem Event.callGapEnd (s : State) : Event x s (match s.line.flight with
    | .gap b c => if s.rollWithdrawn b then s.freeLine.decideGrant else s.setFlight (.sending b c)
    | _ => s) := by
  split
  · rename_i b c hf
    split
    · exact Event.freeAndDecide s
    · rename_i hh
      refine Event.sendCall b c (.inl (by simp [hf])) ?_
      rintro rfl h0
      simp [State.rollWithdrawn, h0] at hh
  · exact .refl

theorem Event.clearLowEnd (s : State) : Event x s (match s.line.flight with
    | .clearLow => s.setFlight .clearIdle
    | _ => s) := by
  split
  · rename_i hf
    exact .of (.line _ (.setFlight _ (fun _ => .inl (by simp [hf])) (by simp) (by simp) (by simp)))
  · exact .refl

theorem Event.lineClearSent (s : State) : Event x s (match s.line.flight with
    | .clearIdle => s.clearSent
    | _ => s) := by
  split
  · exact Event.clearSent s
  · exact .refl

/-- A step of an event after one that may be taken only in part. -/
theorem Event.ite {p : Prop} [Decidable p] (h : p → Event x s t) : Event x s (if p then t else s) := by
  split
  · rename_i hp; exact h hp
  · exact .refl

/-- A notice is taken, and the event goes on. -/
theorem Event.taken (c : Instr) (h : takenIdle s c) (he : Event x (s.take c) t) : Event x s t :=
  (Event.take c h).trans he

/-- Every command but the hard reset is a chain of changes, each to one block. -/
theorem exec_event {c : Instr} (hc : ∀ a b, c ≠ .hardReset a b) (h : exec c s = .next t) (hx : exemptFor x s c) :
    Event x s t := by
  cases c
  all_goals obtain rfl := Host.Outcome.next.inj h
  case hardReset a b => exact absurd rfl (hc a b)
  -- the coupling monitor
  case contactEdge k closed => split <;> [exact .refl; exact Event.edge k closed s]
  case settleExpiry => exact Event.ite fun h => Event.settled h.1
  case logicOnReport =>
    exact Event.taken .logicOnReport trivial (Event.ite fun h => Event.monitorTimers rfl)
  case powerWaitExpiry =>
    refine Event.ite fun h => Event.monitor (.stays _ ?_ ?_ ?_) <;> simp [h.1, CouplingState.lineOn, CouplingState.coupled]
  case passEndReport r f => exact Event.taken (.passEndReport r f) trivial (Event.passEnd f _)
  case passStartReport => exact Event.taken .passStartReport trivial (Event.ite fun h => Event.monitorTimers rfl)
  case passRetryExpiry =>
    refine Event.ite fun h => Relation.ReflTransGen.trans
      (Event.monitorTimers (c := { s.cm with passRetry := none }) rfl) ?_
    exact Event.give _ _
  case stageBNotice => exact Event.taken .stageBNotice trivial (Event.ite fun h => Event.enterFaulted _ _)
  case lineHeldNotice => exact Event.taken .lineHeldNotice trivial (Event.ite fun h => Event.enterFaulted _ _)
  -- the feed supervisor
  case sampleNotice => exact Event.taken .sampleNotice trivial (Event.feed (.same id id))
  case stopNotice => exact Event.taken .stopNotice trivial (Event.feed (.same id (by simp)))
  case captureNotice =>
    exact Event.taken .captureNotice trivial (Event.ite fun h => Event.feed fun _ => .inr (.inr (by rw [h]; rfl)))
  case sampleCompletion a b => exact Event.ite fun _ => Event.sample a b s
  case feedsOffCommand => exact Event.taken .feedsOffCommand trivial (Event.feedsOff _ rfl rfl _)
  case feedCouplingLost r => exact Event.feedCouplingLost r s
  -- the line unit
  case lineActiveNotice =>
    exact Event.taken .lineActiveNotice trivial (Event.ite fun h => (Event.lineActive h).trans (Event.decideGrant _))
  case lineInactiveNotice => exact Event.taken .lineInactiveNotice trivial (Event.lineStandDown _)
  case lineCouplingLost r => exact Event.lineCouplingLost r s
  case lineServingNotice =>
    exact Event.taken .lineServingNotice trivial (Event.ite fun h => (Event.lineServing h.1 h.2).trans (Event.decideGrant _))
  case callSent => exact Event.callSent hx
  case answerEnd edges => exact Event.answerEnd edges s
  case windowEnd edges => exact Event.windowEnd edges s
  case callGapEnd => exact Event.callGapEnd s
  case lineClearLowEnd => exact Event.clearLowEnd s
  case lineClearSent => exact Event.lineClearSent s
  case lineHeld bits => exact Event.countHeld bits s
  case groupAbandoned c =>
    refine Event.taken (.groupAbandoned c) trivial ?_
    cases c with
    | walker => exact Event.walkerSettings id id
    | rollCaller => exact Event.rollAbandoned hx
    | requestUnit => exact Event.requestHand none _
  -- the walker
  case firstPassNotice =>
    refine Event.taken .firstPassNotice trivial ?_
    split
    · exact .refl
    · rename_i hn
      push Not at hn
      exact Event.startPass _ (.inr (by rw [hn.1]; rfl))
  case passWantedNotice w => exact Event.taken (.passWantedNotice w) trivial (Event.takePassWanted _)
  case retryDueNotice => exact Event.taken .retryDueNotice trivial (Event.retryDue _)
  case roundEndNotice => exact Event.taken .roundEndNotice trivial (Event.ite fun h => Event.roundEnd h)
  case walkerLineClearSent =>
    refine (Event.taken .walkerLineClearSent trivial (Event.walkerLineClear _)).trans ?_
    split
    · exact Event.decideGrant _
    · exact .refl
  case walkerCouplingLost r => exact Event.walkerCouplingLost r s
  -- the directory unit
  case claimOutcomeReport n i r st =>
    exact Event.taken (.claimOutcomeReport n i r st) trivial (Event.decideIfJoined _ (Event.takeOutcome ..))
  case directoryReleaseSent n =>
    obtain rfl := hx
    exact Event.taken (.directoryReleaseSent n) trivial (Event.dir (.takeReleaseSent n _))
  case directoryLineClearSent =>
    obtain rfl := hx
    exact Event.taken .directoryLineClearSent trivial (Event.dir (.directoryLineClear (OnlyDir.stableAll _ _) rfl (by simp)))
  case directoryCouplingLost r => exact Event.dir (.directoryCouplingLost x r s)
  case moveReleaseReport a b =>
    obtain rfl := hx
    exact Event.taken (.moveReleaseReport a b) trivial (Event.takeMoveRelease a b _)
  case moveOutcomeReport n i r st =>
    exact Event.taken (.moveOutcomeReport n i r st) trivial (Event.decideIfJoined _ (Event.takeOutcome ..))
  case rollReport n rep =>
    refine Event.taken (.rollReport n rep) trivial (Event.decideIfJoined _ (Event.dir (.takeRollReport n rep fun hl l _ _ => ?_)))
    exact hx.resolve_left hl ⟨l.strikes, l.keep, l.stale, l.priorKeep, l.priorKind, l.priorStrikes, l.priorStale⟩
  case acknowledgement n v => exact Event.writeSeen n v s
  -- the roll caller
  case rollPeriodExpiry => exact Event.ite fun h => Event.rollExpiry h
  case rollServingNotice => exact Event.taken .rollServingNotice trivial (Event.ite fun h => Event.rollServing h)
  case rollCouplingLost r => exact Event.rollCouplingLost r hx
  -- the request unit
  case withdraw k ticket => exact Event.withdrawAsk k ticket s
  case askInvalidIntent k ticket three => exact Event.badAsk k _ ticket s
  case requestWaitExpiry k => exact Event.requestWaitExpiry k s
  case requestLineClearSent => exact Event.taken .requestLineClearSent trivial (Event.requestLineClear _)
  case requestCouplingLost r => exact Event.taken (.requestCouplingLost r) trivial (Event.requestLoss r _)
  case requestServingNotice =>
    refine Event.taken .requestServingNotice trivial ?_
    split
    · exact .refl
    · exact Event.decideGrant _
  case requestDiscoveringNotice => exact Event.take .requestDiscoveringNotice trivial
  -- the exchange port
  case runEntry => exact Event.writeRunOne hx
  case softHold => exact Event.writeRunZero s
  case alertClear v => exact Event.port _ rfl
  case alertmaskWrite v => exact Event.port _ rfl
  case bothStrobes => exact Event.raise _ s
  case hostWrite addr v =>
    split
    · exact Event.storeWord _ v hx
    · exact Event.raise _ s
  all_goals exact Event.post _ _ s

end Sys2Proof.Machine
end

section
/-! PROOFS. Every step keeps the invariants of the directory, the line side and the request board. -/

namespace Sys2Proof.Machine

variable {s t u : State} {x : Exempt} {c : Instr} {rest : List Instr}

/-! ### The hard reset -/

/-- A hard reset leaves the state of `State.reset`, but for the sensed levels and the queue. -/
theorem exec_hardReset (a b : Bool) (h : exec (.hardReset a b) s = .next t) :
    t = { State.reset with cm := { State.reset.cm with first := a, last := b }, pending := s.pending } :=
  (Host.Outcome.next.inj h).symm

/-- A property that is kept by a hard reset and by every chain with some exemption is kept by every step. -/
theorem step_keeps {P : State → Prop} (hreset : ∀ a b q,
      P { State.reset with cm := { State.reset.cm with first := a, last := b }, pending := q })
    (hevent : ∀ c rest, s.pending = c :: rest → (∀ a b, c ≠ .hardReset a b) →
      exec c { s with pending := rest } = .next t → P s → P t)
    (h : step s = .next t) (hs : P s) : P t := by
  obtain rfl | ⟨c, rest, hp, h⟩ := step_cases h
  · exact hs
  · by_cases hc : ∃ a b, c = .hardReset a b
    · obtain ⟨a, b, rfl⟩ := hc
      rw [exec_hardReset a b h]
      exact hreset a b _
    · push Not at hc
      exact hevent c rest hp hc h hs

/-! ### Exemptions -/

/-- The exemption a command takes. -/
def exemption (s : State) : Instr → Exempt
  | .callSent => match s.line.flight with
    | .sending _ (.release _) => .owed
    | .sending .rollCaller _ => .listening
    | _ => .nothing
  | .groupAbandoned .rollCaller => .abandoned
  | .rollCouplingLost _ => .abandoned
  | .directoryReleaseSent _ => .owed
  | .directoryLineClearSent => .owed
  | .moveReleaseReport _ _ => .owed
  | .rollReport _ _ => .live
  | .runEntry => .coupling
  | .hostWrite _ _ => .coupling
  | _ => .nothing

theorem exemptFor_exemption (s : State) (c : Instr) : exemptFor (exemption s c) s c := by
  cases c with
  | callSent =>
    unfold exemptFor exemption
    dsimp only
    generalize s.line.flight = f
    cases f with
    | sending b d => cases d <;> cases b <;> first | rfl | exact .inl rfl | trivial
    | _ => trivial
  | groupAbandoned b => cases b <;> first | trivial | exact .inl rfl
  | rollCouplingLost r => exact .inl rfl
  | directoryReleaseSent n => rfl
  | directoryLineClearSent => rfl
  | moveReleaseReport a b => rfl
  | rollReport n rep => exact .inl rfl
  | runEntry => exact .inl rfl
  | hostWrite a v => exact .inl rfl
  | _ => trivial

/-- The exemption but where the command meets what it would be exempt from. -/
theorem exemptFor_nothing (hx : exemption s c = .nothing) : exemptFor .nothing s c :=
  hx ▸ exemptFor_exemption s c

/-- With the coupling monitor sound no command leaves a coupling untold. -/
theorem exists_exemptFor_ne_coupling (inv : MonitorInv s) (c : Instr) : ∃ x, x ≠ .coupling ∧ exemptFor x s c := by
  by_cases h : exemption s c = .coupling
  · refine ⟨.nothing, by simp, ?_⟩
    cases c with
    | callSent => simp only [exemption] at h; split at h <;> cases h
    | groupAbandoned b => cases b <;> cases h
    | runEntry => exact .inr inv
    | hostWrite a v => exact .inr inv
    | _ => cases h
  · exact ⟨_, h, exemptFor_exemption s c⟩

/-- A report with values within the limits needs no exemption. -/
theorem exists_exemptFor_ne_live (hrep : ∀ n rep, c = .rollReport n rep →
    reportInLimits s.roll.strikeLimit s.roll.keepRounds rep) : ∃ x, x ≠ .live ∧ exemptFor x s c := by
  by_cases h : exemption s c = .live
  · refine ⟨.nothing, by simp, ?_⟩
    cases c with
    | callSent => simp only [exemption] at h; split at h <;> cases h
    | groupAbandoned b => cases b <;> cases h
    | rollReport n rep => exact .inr fun _ => hrep n rep rfl
    | _ => cases h
  · exact ⟨_, h, exemptFor_exemption s c⟩

/-- With no roll in hand no roll is sent and none is abandoned. -/
theorem exists_exemptFor_of_idle (hh : s.roll.hand = none) (c : Instr) :
    ∃ x, x ≠ .listening ∧ x ≠ .abandoned ∧ exemptFor x s c := by
  by_cases h : exemption s c = .listening ∨ exemption s c = .abandoned
  · refine ⟨.nothing, by simp, by simp, ?_⟩
    cases c with
    | callSent =>
      unfold exemption at h
      unfold exemptFor
      dsimp only at h ⊢
      generalize s.line.flight = f at h
      cases f with
      | sending b d =>
        cases d with
        | release n => simp at h
        | _ =>
          cases b with
          | rollCaller => exact .inr hh
          | _ => trivial
      | _ => trivial
    | groupAbandoned b =>
      cases b with
      | rollCaller => exact .inr hh
      | _ => trivial
    | rollCouplingLost r => exact .inr hh
    | _ => simp [exemption] at h
  · push Not at h
    exact ⟨_, h.1, h.2, exemptFor_exemption s c⟩

theorem exists_exemptFor_ne_abandoned (h1 : c ≠ .groupAbandoned .rollCaller) (h2 : ∀ r, c ≠ .rollCouplingLost r) :
    ∃ x, x ≠ .abandoned ∧ exemptFor x s c := by
  refine ⟨_, ?_, exemptFor_exemption s c⟩
  cases c with
  | callSent => simp only [exemption]; split <;> simp
  | groupAbandoned b =>
    cases b with
    | rollCaller => exact absurd rfl h1
    | _ => simp [exemption]
  | rollCouplingLost r => exact absurd rfl (h2 r)
  | _ => simp [exemption]

/-! ### Steps -/

/-- The queue belongs to no invariant. -/
theorem Event.step (he : exec c { s with pending := rest } = .next t) (hc : ∀ a b, c ≠ .hardReset a b)
    (hx : exemptFor x { s with pending := rest } c) : Event x s t :=
  (Event.of (.port s.port s.callRetries rest rfl)).trans (exec_event hc he hx)

theorem exists_event (he : exec c { s with pending := rest } = .next t) (hc : ∀ a b, c ≠ .hardReset a b) :
    ∃ x, Event x s t := ⟨_, Event.step he hc (exemptFor_exemption _ c)⟩

/-- An invariant that every chain keeps, whatever its exemption. -/
theorem step_keeps_of_event {P : State → Prop} (hreset : ∀ a b q,
      P { State.reset with cm := { State.reset.cm with first := a, last := b }, pending := q })
    (hevent : ∀ x s t, Event x s t → P s → P t) (h : step s = .next t) (hs : P s) : P t :=
  step_keeps hreset (fun _ _ _ hc he hs => by
    obtain ⟨x, hx⟩ := exists_event he hc
    exact hevent x s t hx hs) h hs

/-- Settles O60: the board's invariant is kept by each change of a chain. -/
theorem stepKeepsBoard : Obligations.StepKeepsBoard := by
  unfold Obligations.StepKeepsBoard
  obtain ⟨-, -, -, -, -, -, -, -, -, hboard, -⟩ := resetMeetsInvariants
  exact fun s t inv h =>
    step_keeps_of_event (fun _ _ _ => hboard.of_req rfl) (fun _ _ _ he => he.boardInv) h inv

theorem step_keeps_idle (inv : MonitorInv s) (hr : RollInv s) (i : IdleInv s) (h : step s = .next t) : IdleInv t := by
  obtain ⟨-, -, -, -, -, -, -, -, -, -, -, -, hidle, -⟩ := resetMeetsInvariants
  refine step_keeps (P := IdleInv) (fun a b q => ?_) (fun c rest _ hc he i => ?_) h i
  · exact ⟨hidle.logic, hidle.capture, hidle.line, hidle.serving, hidle.walker, hidle.timer, hidle.round, hidle.hand⟩
  · obtain ⟨x, hx, hfor⟩ := exists_exemptFor_ne_coupling (s := { s with pending := rest }) (inv.of_eq rfl rfl) c
    exact (Event.step he hc hfor).idle hx hr i

theorem step_keeps_busy (hp : ∀ rest, s.pending ≠ .groupAbandoned .rollCaller :: rest) (inv : RollInv s)
    (hb : s.roll.busy) (h : step s = .next t) : t.roll.busy := by
  refine step_keeps (P := fun s => s.roll.busy) (fun a b q h => by cases h) (fun c rest hq hc he hb => ?_) h hb
  by_cases hl : ∃ r, c = .rollCouplingLost r
  · obtain ⟨r, rfl⟩ := hl
    obtain rfl := Host.Outcome.next.inj he
    intro h; cases h
  · push Not at hl
    obtain ⟨x, hx, hfor⟩ := exists_exemptFor_ne_abandoned (s := { s with pending := rest })
      (fun h => hp rest (h ▸ hq)) hl
    exact (Event.step he hc hfor).busy hx inv hb

/-- What is in flight of the roll caller after a step was in flight before, where no roll was in hand. -/
theorem step_keeps_flight (hh : s.roll.hand = none) (h : step s = .next t) (c : Call) :
    (t.line.flight = .listening .rollCaller c → s.line.flight = .listening .rollCaller c) ∧
    (t.line.flight = .sending .rollCaller c → t.roll.hand = none → s.line.flight = .sending .rollCaller c) := by
  obtain rfl | ⟨d, rest, -, he⟩ := step_cases h
  · exact ⟨id, fun h _ => h⟩
  · by_cases hd : ∃ a b, d = .hardReset a b
    · obtain ⟨a, b, rfl⟩ := hd
      rw [exec_hardReset a b he]
      exact ⟨fun h => (by cases h), fun h => by cases h⟩
    · push Not at hd
      obtain ⟨x, h1, h2, hfor⟩ := exists_exemptFor_of_idle (s := { s with pending := rest }) hh d
      have hev := Event.step he hd hfor
      exact ⟨hev.listening h1, fun hf hn => (hev.sending h2 hf hn).1⟩

/-- Settles O59: each invariant is kept by each change of a chain. -/
theorem stepKeepsLineSide : Obligations.StepKeepsLineSide := by
  unfold Obligations.StepKeepsLineSide
  intro s t h
  obtain ⟨-, -, -, hline, -, -, -, hwalker, hroll, -⟩ := resetMeetsInvariants
  refine ⟨step_keeps_of_event (fun _ _ _ => hline.of_line rfl) (fun _ _ _ he => he.lineInv) h,
    step_keeps_of_event (fun _ _ _ => hwalker.of_walker rfl) (fun _ _ _ he => he.walkerInv) h,
    step_keeps_of_event (fun _ _ _ => hroll.of_roll rfl) (fun _ _ _ he => he.rollInv) h,
    fun hp inv hb => step_keeps_busy hp inv hb h, fun inv hr i => step_keeps_idle inv hr i h,
    fun c hh => mt (step_keeps_flight hh h c).1, fun c hh hn hf hs => ?_⟩
  exact hf ((step_keeps_flight hh h c).2 hs hn)

/-! ### Owed releases and the release list (R48, R76) -/

/-- In a step in which an entry comes to owe a release its name is in the release list, a name that joins the list is
owed, and one that leaves it is owed no longer, but for one a RELEASE in flight was sent to. -/
def OwedStep (s t : State) (n : Name) : Prop :=
  ((t.entry n).owed = true → (s.entry n).owed = false → n ∈ t.line.releases) ∧
  (n ∈ t.line.releases → n ∉ s.line.releases → (t.entry n).owed = true) ∧
  (n ∈ s.line.releases → n ∉ t.line.releases → (t.entry n).owed = false ∨
    ∃ b, s.line.flight = .sending b (.release n))

theorem OwedKept.step (h : OwedKept s t) (n : Name) : OwedStep s t n := by
  obtain ⟨h1, h2⟩ := h n
  refine ⟨fun ho hs => ?_, fun hr hs => ?_, fun hs hr => .inl ?_⟩
  · by_contra hr
    exact Bool.false_ne_true (hs.symm.trans (h1 ho hr).1)
  · by_contra ho
    exact hs (h2 hr (by simpa using ho)).1
  · by_contra ho
    exact (h1 (by simpa using ho) hr).2 hs

/-- Where no entry comes to owe a release and no name joins the list. -/
theorem OwedStep.of_falls {n : Name} (ho : (t.entry n).owed = true → (s.entry n).owed = true)
    (hr : n ∈ t.line.releases → n ∈ s.line.releases)
    (hl : n ∈ s.line.releases → n ∉ t.line.releases → ∃ b, s.line.flight = .sending b (.release n)) :
    OwedStep s t n :=
  ⟨fun h1 h2 => absurd ((ho h1).symm.trans h2) Bool.true_eq_false.mp, fun h1 h2 => absurd (hr h1) h2,
    fun h1 h2 => .inr (hl h1 h2)⟩

theorem State.takeReleaseSent_owed (n m : Name) (s : State) (h : ((s.takeReleaseSent n).entry m).owed = true) :
    (s.entry m).owed = true := by
  obtain ⟨he, -⟩ | ⟨e, he, ho, -⟩ := s.takeReleaseSent_cases n
  · rwa [he] at h
  · rw [he, State.entry_stableEntry] at h
    split at h
    · exact absurd (ho.symm.trans h) Bool.false_ne_true
    · exact h

theorem State.takeReleaseSent_line (n : Name) (s : State) : (s.takeReleaseSent n).line = s.line := by
  obtain ⟨he, -⟩ | ⟨e, he, -⟩ := s.takeReleaseSent_cases n
  · rw [he]
  · rw [he]; rfl

theorem State.takeMoveRelease_owed (n m j : Name) (s : State) (h : ((s.takeMoveRelease n m).entry j).owed = true) :
    (s.entry j).owed = true := by
  unfold State.takeMoveRelease at h
  dsimp only at h
  split at h
  · have he := (s.vacate n).entry_stableEntry m j
      { state := .offered, ident := (s.entry n).ident, cls := (s.entry n).cls, role := (s.entry n).role
        devstat := (s.entry n).devstat, outside := !((s.vacate n).classEntry (s.entry n).cls).covers m }
    have ho := (congrArg Entry.owed he).symm.trans h
    split at ho
    · cases ho
    · rw [State.entry_vacate] at ho
      split at ho
      · cases ho
      · exact ho
  · exact h

/-- A MOVE's RELEASE sent takes its own name off the list. -/
theorem State.moveReleaseSent_owedStep {b : Claimant} {m : Name} (inv : DirInv s)
    (hf : s.line.flight = .sending b (.release m)) (n : Name) : OwedStep s (s.moveReleaseSent m) n := by
  have hleave : n ∈ (s.leaveRelease m).line.releases ↔ n ∈ s.line.releases ∧ n ≠ m := by simp
  have hm : n = m → ∃ b, s.line.flight = .sending b (.release n) := fun h => ⟨b, h ▸ hf⟩
  unfold State.moveReleaseSent; dsimp only
  split
  · rename_i h d _
    have hl : ∀ c, (((s.leaveRelease m).takeMoveRelease m d).askAgain .requestUnit c).line.releases =
        (s.leaveRelease m).line.releases := fun _ => by
      have h := congrArg LineUnit.releases ((s.leaveRelease m).takeMoveRelease_line m d)
      exact h
    refine .of_falls (fun ho => ?_) (fun hr => ?_) fun hs hr => ?_
    · exact (s.leaveRelease m).takeMoveRelease_owed m d n ho
    · rw [hl, hleave] at hr; exact hr.1
    · rw [hl, hleave] at hr
      refine hm ?_
      by_contra hne
      exact hr ⟨hs, hne⟩
  · have hev : Event .nothing (s.leaveRelease m) (s.leaveRelease m).freeLine.decideGrant := Event.freeAndDecide _
    have hk := hev.owed (by simp) ((DirChange.leaveRelease m s).inv inv)
    generalize (s.leaveRelease m).freeLine.decideGrant = t at hk
    obtain ⟨h1, h2, h3⟩ := hk.step n
    refine ⟨h1, fun hr hs => h2 hr fun h => hs (hleave.1 h).1, fun hs hr => ?_⟩
    by_cases hne : n = m
    · exact .inr (hm hne)
    · obtain h | ⟨c, hc⟩ := h3 (hleave.2 ⟨hs, hne⟩) hr
      · exact .inl h
      · exact .inr ⟨c, hc⟩

theorem exec_owedStep (inv : DirInv s) (he : exec c s = .next t) (n : Name) : OwedStep s t n := by
  by_cases hc : ∃ a b, c = .hardReset a b
  · obtain ⟨a, b, rfl⟩ := hc
    rw [exec_hardReset a b he]
    have hentry : (State.reset.entry n).owed = false := by simp [State.entry, State.reset]
    exact ⟨fun h => absurd (hentry.symm.trans h) Bool.false_ne_true, fun h => (by cases h), fun _ _ => .inl hentry⟩
  · push Not at hc
    by_cases hx : exemption s c = .owed
    · cases c with
      | callSent =>
        obtain rfl := Host.Outcome.next.inj he
        simp only [exemption] at hx
        split at hx
        · rename_i b m hf
          simp only [hf]
          split
          · have hev : Event .nothing s s.freeLine.decideGrant := Event.freeAndDecide s
            exact (hev.owed (by simp) inv).step n
          · exact State.moveReleaseSent_owedStep inv hf n
        · cases hx
        · cases hx
      | groupAbandoned b => cases b <;> cases hx
      | directoryReleaseSent m =>
        obtain rfl := Host.Outcome.next.inj he
        have hl : ((s.take (.directoryReleaseSent m)).takeReleaseSent m).line = s.line := State.takeReleaseSent_line ..
        exact .of_falls (State.takeReleaseSent_owed m n _) (by rw [hl]; exact id) fun h1 h2 => absurd (hl ▸ h1) h2
      | directoryLineClearSent =>
        obtain rfl := Host.Outcome.next.inj he
        have hl : (s.take .directoryLineClearSent).directoryLineClear.line = s.line := by simp [State.directoryLineClear]
        have ho := State.directoryLineClear_owed (s := s.take .directoryLineClearSent) (inv.of_dir rfl rfl) n
        exact .of_falls (fun h => absurd (ho.symm.trans h) Bool.false_ne_true) (by rw [hl]; exact id) fun h1 h2 =>
          absurd (hl ▸ h1) h2
      | moveReleaseReport a b =>
        obtain rfl := Host.Outcome.next.inj he
        have hl : ((s.take (.moveReleaseReport a b)).takeMoveRelease a b).line = s.line := State.takeMoveRelease_line ..
        exact .of_falls (State.takeMoveRelease_owed a b n _) (by rw [hl]; exact id) fun h1 h2 => absurd (hl ▸ h1) h2
      | _ => cases hx
    · exact ((exec_event hc he (exemptFor_exemption s c)).owed hx inv).step n

theorem step_owedStep (inv : DirInv s) (h : step s = .next t) (n : Name) : OwedStep s t n := by
  obtain rfl | ⟨c, rest, -, he⟩ := step_cases h
  · exact (OwedKept.refl _).step n
  · exact exec_owedStep (s := { s with pending := rest }) (inv.of_dir rfl rfl) he n

/-! ### The directory -/

theorem step_keeps_quiet (hm : MonitorInv s) (inv : DirInv s) (q : QuietInv s) (h : step s = .next t) : QuietInv t := by
  obtain ⟨-, -, -, -, -, hquiet, -⟩ := resetMeetsInvariants
  refine step_keeps (P := QuietInv) (fun a b r => ⟨hquiet.entries, hquiet.offer, hquiet.reports⟩)
    (fun c rest _ hc he q => ?_) h q
  obtain ⟨x, hx, hfor⟩ := exists_exemptFor_ne_coupling (s := { s with pending := rest }) (hm.of_eq rfl rfl) c
  exact (Event.step he hc hfor).quiet hx inv q

theorem step_keeps_live (inv : DirInv s) (hr : RangeInv s) (l : LiveInv s)
    (hstrike : ∀ n k rest, s.pending = .rollReport n (.strike k) :: rest → k < s.roll.strikeLimit)
    (hkeep : ∀ n k rest, s.pending = .rollReport n (.retentionStep k) :: rest → 1 ≤ k ∧ k ≤ s.roll.keepRounds)
    (h : step s = .next t) : LiveInv t := by
  obtain ⟨-, -, -, -, -, -, hlive, -⟩ := resetMeetsInvariants
  refine step_keeps (P := LiveInv) (fun a b q => hlive.of_eq rfl rfl rfl rfl) (fun c rest hp hc he l => ?_) h l
  obtain ⟨x, hx, hfor⟩ := exists_exemptFor_ne_live (s := { s with pending := rest }) (c := c) fun n rep hrep => by
    subst hrep
    cases rep with
    | strike k => exact hstrike n k rest hp
    | retentionStep k => exact hkeep n k rest hp
    | _ => trivial
  exact (Event.step he hc hfor).live hx inv ⟨hr.strikeLimit.1, hr.keepRounds.1⟩ l

/-- Settles O58: each invariant is kept by each change of a chain, but for the changes exempt from it, and the commands
that make one are looked at alone. -/
theorem stepKeepsDirectory : Obligations.StepKeepsDirectory := by
  unfold Obligations.StepKeepsDirectory
  intro s t h
  obtain ⟨-, -, hgen, -, hdir, -⟩ := resetMeetsInvariants
  exact ⟨step_keeps_of_event (fun _ _ _ => hgen.of_eq rfl fun _ => rfl) (fun _ _ _ he => he.gen) h,
    step_keeps_of_event (fun _ _ _ => hdir.of_dir rfl rfl) (fun _ _ _ he => he.dirInv) h,
    fun hm inv q => step_keeps_quiet hm inv q h,
    fun inv hr l hstrike hkeep => step_keeps_live inv hr l hstrike hkeep h,
    fun inv n => step_owedStep inv h n⟩

end Sys2Proof.Machine
end

section
/-! PROOFS. The line unit's activity and the order of its grants (sections 3.2, 3.7, 3.9 and 3.10). -/

namespace Sys2Proof.Machine

variable {s t u : State}

/-! ### Grants that put a call in flight (R52) -/

/-- A grant that puts a call group in flight is the whole decision. -/
theorem State.decideGrant_of_sent {g : Grant} (ha : s.line.active = true) (hc : s.cm.state.lineOn = true)
    (hf : s.line.flight = .free) (hg : s.nextGrant = some g) (h : (s.grant g).line.flight ≠ .free) :
    s.decideGrant = s.grant g := by
  rw [s.decideGrant_of_grant g ha hc hf hg, State.grantLoop_of_flight _ _ h]

/-- An owed line clear goes first (R51). -/
theorem State.nextGrant_of_clearOwed (h : s.line.clearOwed = true) : s.nextGrant = some .lineClear := by
  simp [State.nextGrant, h]

/-- Settles O16: on a free line the owed clear is the grant that the event decides (R45, R51). -/
theorem lineActiveGrantsClear : Obligations.LineActiveGrantsClear := by
  unfold Obligations.LineActiveGrantsClear
  intro s told htold
  have hexec : exec .lineActiveNotice s = .next (if s.cm.state.lineOn then
      State.decideGrant (told true s.line.flight) else s.take .lineActiveNotice) := by
    rw [htold]; rfl
  refine ⟨fun hc => ?_, fun h1 h2 => ?_⟩
  · rw [← CouplingState.lineOn_iff] at hc
    rw [hexec, if_pos hc]
    refine ⟨fun hf => ?_, fun hf => ?_⟩
    · have hg : (told true s.line.flight).nextGrant = some .lineClear :=
        State.nextGrant_of_clearOwed (by rw [htold])
      rw [State.decideGrant_of_sent (by rw [htold]) (by rw [htold]; exact hc) (by rw [htold]; exact hf) hg
        (by simp [State.grant, State.setFlight])]
      simp only [htold]; rfl
    · rw [State.decideGrant_of_flight _ (by rw [htold]; exact hf)]
  · rw [hexec, if_neg (by simp [(CouplingState.lineOn_eq_false_iff _).2 ⟨h1, h2⟩])]; rfl

/-! ### The line going inactive (R53, R54) -/

theorem State.lineStandDown_eq {told : List Instr} (h : told = match s.line.flight.claimant with
    | some c => [.groupAbandoned c]
    | none => []) : s.lineStandDown = { s with
      line := { s.line with
        active := false, serving := false, clearOwed := false, heldRunning := false, heldCount := 0, flight := .free }
      given := s.given ++ told } := by
  subst h; rfl

theorem exec_lineStandDown {c : Instr} (hc : c = .lineInactiveNotice ∨ ∃ r, c = .lineCouplingLost r) (s : State) :
    exec c s = .next (s.take c).lineStandDown := by
  obtain rfl | ⟨r, rfl⟩ := hc <;> rfl

/-! ### The line-held count bit by bit (R47) -/

/-- The line-held count goes on from l over the bit times. -/
def State.heldFrom (s : State) (l : LineUnit) (bits : List LineBit) : State :=
  let l' := l.countBits bits
  if l.heldRunning = true ∧ l'.heldRunning = false then State.give [.lineHeldNotice] { s with line := l' }
  else { s with line := l' }

theorem exec_lineHeld (bits : List LineBit) (s : State) :
    exec (.lineHeld bits) s = .next (s.heldFrom s.line (s.lineBits bits)) := rfl

/-- One bit time of a running count. -/
theorem LineUnit.countBits_cons {l : LineUnit} (hr : l.heldRunning = true) (b : LineBit) (rest : List LineBit) :
    l.countBits (b :: rest) = LineUnit.countBits { l with
      heldCount := heldAfterBit l.heldCount b, heldRunning := decide (heldAfterBit l.heldCount b < 64) } rest := by
  conv => lhs; unfold LineUnit.countBits
  rw [if_pos hr]; rfl

/-- A bit time that leaves the count below 64 and running. -/
theorem State.heldFrom_cons {l : LineUnit} (hr : l.heldRunning = true) {b : LineBit}
    (hk : heldAfterBit l.heldCount b < 64) (rest : List LineBit) :
    s.heldFrom l (b :: rest) = s.heldFrom { l with heldCount := heldAfterBit l.heldCount b } rest := by
  unfold State.heldFrom
  rw [LineUnit.countBits_cons hr, show decide (heldAfterBit l.heldCount b < 64) = l.heldRunning by simp [hr, hk]]

/-- Outside a clear's low part each bit time stands for itself. -/
theorem State.lineBits_cons (h : s.line.flight ≠ .clearLow) (b : LineBit) (rest : List LineBit) :
    s.lineBits (b :: rest) = (if s.transmitter = .released then LineBit.released b else b) :: s.lineBits rest := by
  have ht : s.transmitter ≠ .drivingLow := by
    unfold State.transmitter
    split <;> first | exact absurd ‹_› h | simp
  unfold State.lineBits
  cases htr : s.transmitter with
  | drivingLow => exact absurd htr ht
  | frame c => rfl
  | released => rfl

theorem State.transmitter_sending {b : Claimant} {k : Call} (h : s.line.flight = .sending b k) :
    s.transmitter ≠ .released := by simp [State.transmitter, h]

theorem State.transmitter_releasing {n : Name} (h : s.line.flight = .releasing n) : s.transmitter ≠ .released := by
  simp [State.transmitter, h]

theorem State.transmitter_released (h1 : s.line.flight ≠ .clearLow) (h2 : ∀ b k, s.line.flight ≠ .sending b k)
    (h3 : ∀ n, s.line.flight ≠ .releasing n) : s.transmitter = .released := by
  unfold State.transmitter
  split
  · exact absurd ‹_› h1
  · exact absurd ‹_› (h3 _)
  · exact absurd ‹_› (h2 _ _)
  · rfl

/-- The count and its two outcomes. -/
theorem exec_lineHeld_cases (bits : List LineBit) (s : State) : ∃ k run g,
    exec (.lineHeld bits) s = .next { s with
      line := { s.line with heldCount := k, heldRunning := run }, given := g } ∧
    ((run = s.line.heldRunning ∧ g = s.given) ∨
      (run = false ∧ s.line.heldRunning = true ∧ g = s.given ++ [.lineHeldNotice])) := by
  obtain ⟨k, run, he, hrun, -, -⟩ := s.line.countBits_keeps (s.lineBits bits)
  by_cases h : s.line.heldRunning = true ∧ run = false
  · refine ⟨k, run, _, ?_, .inr ⟨h.2, h.1, rfl⟩⟩
    rw [exec_lineHeld]; unfold State.heldFrom; dsimp only
    rw [he, if_pos h]; rfl
  · refine ⟨k, run, _, ?_, .inl ⟨?_, rfl⟩⟩
    · rw [exec_lineHeld]; unfold State.heldFrom; dsimp only
      rw [he, if_neg h]
    · cases run with
      | true => exact (hrun rfl).symm
      | false => symm; simpa using h

section
variable (hr : s.line.heldRunning = true) (hk : s.line.heldCount < 64)
include hr

theorem exec_lineHeld_low_part (h : s.line.flight = .clearLow) (hk : s.line.heldCount < 64) (bits : List LineBit) :
    exec (.lineHeld bits) s = .next s := by
  have hb : s.line.countBits (s.lineBits bits) = s.line := by
    refine LineUnit.countBits_driven _ _ hk fun b hb => ?_
    simp only [State.lineBits, State.transmitter, h, List.mem_map] at hb
    obtain ⟨_, -, rfl⟩ := hb
    rfl
  rw [exec_lineHeld]; unfold State.heldFrom; dsimp only
  rw [hb, if_neg (by simp [hr])]

variable (hf : s.line.flight ≠ .clearLow)
include hf

include hk in
theorem exec_lineHeld_driven (h : s.transmitter ≠ .released) (bits : List LineBit) :
    exec (.lineHeld (.driven :: bits)) s = exec (.lineHeld bits) s := by
  rw [exec_lineHeld, exec_lineHeld, State.lineBits_cons hf, if_neg h, State.heldFrom_cons (b := .driven) hr hk]
  rfl

theorem exec_lineHeld_high (bits : List LineBit) :
    exec (.lineHeld (.high :: bits)) s = exec (.lineHeld bits) { s with line := { s.line with heldCount := 0 } } := by
  have hb : (if s.transmitter = .released then LineBit.released .high else .high) = .high := by split <;> rfl
  rw [exec_lineHeld, exec_lineHeld, State.lineBits_cons hf, hb,
    State.heldFrom_cons (b := .high) hr (by simp [heldAfterBit])]
  rfl

theorem exec_lineHeld_low (h : s.line.heldCount < 63) (bits : List LineBit) :
    exec (.lineHeld (.low :: bits)) s = exec (.lineHeld bits) { s with
      line := { s.line with heldCount := s.line.heldCount + 1 } } := by
  have hb : (if s.transmitter = .released then LineBit.released .low else .low) = .low := by split <;> rfl
  have hc : heldAfterBit s.line.heldCount .low = s.line.heldCount + 1 := by
    simp only [heldAfterBit, addUpTo, Config.heldLimit]; omega
  rw [exec_lineHeld, exec_lineHeld, State.lineBits_cons hf, hb,
    State.heldFrom_cons (b := .low) hr (by rw [hc]; omega), hc]
  rfl

theorem exec_lineHeld_last (h : s.line.heldCount = 63) (bits : List LineBit) :
    exec (.lineHeld (.low :: bits)) s = .next { s with
      line := { s.line with heldRunning := false, heldCount := 64 }, given := s.given ++ [.lineHeldNotice] } := by
  have hb : (if s.transmitter = .released then LineBit.released .low else .low) = .low := by split <;> rfl
  rw [exec_lineHeld, State.lineBits_cons hf, hb]
  unfold State.heldFrom; dsimp only
  rw [LineUnit.countBits_cons hr, h, LineUnit.countBits_of_stopped _ _ (by simp [heldAfterBit, addUpTo, Config.heldLimit])]
  simp [hr, heldAfterBit, addUpTo, State.give, Config.heldLimit]

end

theorem exec_groupAbandoned_rollCaller (s : State) : exec (.groupAbandoned .rollCaller) s =
    .next (s.take (.groupAbandoned .rollCaller)).rollAbandoned := rfl

/-- Settles O17: the claimant told, the count bit by bit, and what a claimant forgets. -/
theorem lineStandsDown : Obligations.LineStandsDown := by
  unfold Obligations.LineStandsDown
  refine ⟨fun s c hc down hdown => ?_, fun s bits => ⟨exec_lineHeld_cases bits s, ?_, fun h => ?_, fun hr hk => ?_⟩,
    fun s => ⟨rfl, fun h => ?_, fun d h => ?_, rfl⟩⟩
  · have htold : ∀ told, (told = match s.line.flight.claimant with
        | some c => [.groupAbandoned c]
        | none => []) → exec c s = .next (down told) := fun told h => by
      rw [exec_lineStandDown hc, State.lineStandDown_eq (s := s.take c) (told := told) h, hdown]; rfl
    refine ⟨fun b k h => htold _ ?_, fun heard h => htold _ ?_, fun h => htold _ ?_⟩
    · rcases h with h | h | h <;> simp [h, Flight.claimant]
    · simp [h, Flight.claimant]
    · rcases h with h | h | h | ⟨n, h⟩ <;> simp [h, Flight.claimant]
  · have hb : s.lineBits [] = [] := by unfold State.lineBits; split <;> rfl
    rw [exec_lineHeld, hb]; unfold State.heldFrom LineUnit.countBits
    simp
  · rw [exec_lineHeld]; unfold State.heldFrom; dsimp only
    rw [LineUnit.countBits_of_stopped _ _ h, if_neg (by simp [h])]
  · refine ⟨fun h => exec_lineHeld_low_part hr h hk bits, fun hf => ⟨fun h => ?_, fun h1 h2 => ?_,
      exec_lineHeld_high hr hf bits, fun h => exec_lineHeld_low hr hf h bits, fun h => exec_lineHeld_last hr hf h bits⟩⟩
    · obtain ⟨b, k, h⟩ | ⟨n, h⟩ := h
      · exact exec_lineHeld_driven hr hk hf (State.transmitter_sending h) bits
      · exact exec_lineHeld_driven hr hk hf (State.transmitter_releasing h) bits
    · rw [exec_lineHeld, exec_lineHeld, State.lineBits_cons hf, State.lineBits_cons hf,
        if_pos (State.transmitter_released hf h1 h2), if_pos (State.transmitter_released hf h1 h2)]
      rfl
  · rw [exec_groupAbandoned_rollCaller]; simp only [State.rollAbandoned, State.take_roll, h]; rfl
  · rw [exec_groupAbandoned_rollCaller]; simp only [State.rollAbandoned, State.take_roll, h]; rfl

end Sys2Proof.Machine
end

section
/-! PROOFS. The order of the grants, and the decision that goes on until nothing has a claim (section 3.9). -/

namespace Sys2Proof.Machine

variable {s t u : State}

/-! ### The order (R51) -/

/-- In a list ordered by rank the first element found is the one of least rank. -/
theorem find?_eq_some_iff_rank {α : Type} {b : α → Bool} {rank : α → Nat} {l : List α}
    (hl : l.Pairwise fun x y => rank x < rank y) (c : α) :
    l.find? b = some c ↔ c ∈ l ∧ b c = true ∧ ∀ d ∈ l, b d = true → rank c ≤ rank d := by
  induction l with
  | nil => simp
  | cons a rest ih =>
    obtain ⟨ha, hrest⟩ := List.pairwise_cons.1 hl
    by_cases hb : b a = true
    · rw [List.find?_cons_of_pos hb]
      refine ⟨fun h => ?_, fun ⟨hc, hbc, hmin⟩ => ?_⟩
      · obtain rfl := Option.some.inj h
        refine ⟨by simp, hb, fun d hd _ => ?_⟩
        obtain rfl | hd := List.mem_cons.1 hd
        · exact Nat.le_refl _
        · exact Nat.le_of_lt (ha d hd)
      · obtain rfl | hc := List.mem_cons.1 hc
        · rfl
        · exact absurd (hmin a (by simp) hb) (Nat.not_le_of_lt (ha c hc))
    · rw [List.find?_cons_of_neg hb, ih hrest]
      simp only [List.mem_cons, forall_eq_or_imp]
      refine ⟨fun ⟨h1, h2, h3⟩ => ⟨.inr h1, h2, fun h => absurd h hb, h3⟩,
        fun ⟨h1, h2, _, h3⟩ => ⟨h1.resolve_left ?_, h2, h3⟩⟩
      rintro rfl
      exact hb h2

/-- The place of a claimant in the rotation's table. -/
def rotationPlace : Claimant → Nat
  | .walker => 0
  | .rollCaller => 1
  | .requestUnit => 2

/-- The rotation counts from the claimant after the pointer. -/
theorem rotationAfter_pairwise (p : Claimant) : (rotationAfter p).Pairwise fun c d =>
    (rotationPlace c + 2 - rotationPlace p) % 3 < (rotationPlace d + 2 - rotationPlace p) % 3 := by
  cases p <;> simp [rotationAfter, rotationPlace]

theorem mem_rotationAfter (c p : Claimant) : c ∈ rotationAfter p := by
  cases p <;> cases c <;> simp [rotationAfter]

theorem State.nextClaimant_iff (c : Claimant) : s.nextClaimant = some c ↔
    (s.takesPart c = true ∧ s.claimantWork c = true) ∧ ∀ d, s.takesPart d = true ∧ s.claimantWork d = true →
      (rotationPlace c + 2 - rotationPlace s.line.pointer) % 3 ≤ (rotationPlace d + 2 - rotationPlace s.line.pointer) % 3 := by
  unfold State.nextClaimant
  rw [find?_eq_some_iff_rank (rotationAfter_pairwise _)]
  simp [mem_rotationAfter]

theorem State.nextGrant_of_rotation (hc : s.line.clearOwed = false) (hr : s.line.releases = []) :
    s.nextGrant = s.nextClaimant.map .rotation := by
  simp [State.nextGrant, hc, hr]

theorem Walker.hasWork_iff (w : Walker) : w.hasWork = true ↔
    w.state = .sweepDue ∨ (w.state = .walking ∧ (w.candidates ≠ [] ∨ w.stack ≠ [])) := by
  unfold Walker.hasWork
  cases w.state <;> simp

/-- Settles O18. -/
theorem grantOrder : Obligations.GrantOrder := by
  unfold Obligations.GrantOrder
  intro s place works hw hr hq hwork hroll hreq
  have hplace : place = rotationPlace := funext fun c => by cases c <;> assumption
  have hworks : ∀ c, works c ↔ s.takesPart c = true ∧ s.claimantWork c = true := fun c => by
    cases c with
    | walker => rw [hwork]; simp [State.takesPart, State.claimantWork, Walker.hasWork_iff]
    | rollCaller => rw [hroll]; simp [State.takesPart, State.claimantWork]
    | requestUnit => rw [hreq]; simp [State.takesPart, State.claimantWork]
  subst hplace
  refine ⟨State.nextGrant_of_clearOwed, fun hc n l h => by simp [State.nextGrant, hc, h], fun hc hrel => ?_⟩
  rw [State.nextGrant_of_rotation hc hrel]
  simp only [hworks]
  refine ⟨fun c => ?_, fun h => ?_⟩
  · rw [← State.nextClaimant_iff, Option.map_eq_some_iff]
    exact ⟨fun ⟨d, hd, he⟩ => by cases he; exact hd, fun h => ⟨c, h, rfl⟩⟩
  · cases hn : s.nextClaimant with
    | none => rfl
    | some c => exact absurd (State.nextClaimant_iff c |>.1 hn).1 (h c)

/-! ### The decision is complete (R52) -/

/-- What returned grants use up: a candidate, a waiting request, or one of at most two rounds. -/
def State.returns (s : State) : Nat :=
  s.walker.candidates.length + s.req.postOrder.length + (if s.roll.due = [] then 0 else 1) +
    (if s.roll.owed then 1 else 0)

theorem State.returns_lt_grantFuel (s : State) : s.returns < s.grantFuel := by
  unfold State.returns State.grantFuel
  split <;> split <;> omega

theorem State.endIfDone_returns (s : State) : s.endIfDone.walker.candidates.length ≤ s.walker.candidates.length := by
  unfold State.endIfDone
  split
  · unfold State.endPass; dsimp only
    split
    · rw [State.startPass_eq]; exact Nat.zero_le _
    · rw [State.closePass_eq]; exact Nat.zero_le _
  · exact Nat.le_refl _

/-- The rest of the returns stays with the walker's changes. -/
theorem WalkerChange.returns_lt (h : WalkerChange s t)
    (hc : t.walker.candidates.length < s.walker.candidates.length) : t.returns < s.returns := by
  unfold State.returns
  rw [h.roll, h.req]; omega

theorem State.dropCandidate_returns (f : PassCounts → PassCounts) (h : s.walker.candidates ≠ []) :
    (s.dropCandidate f).returns < s.returns := by
  have hd : WalkerChange { s with walker := { s.walker with
      candidates := s.walker.candidates.tail, counts := f s.walker.counts } } (s.dropCandidate f) := .endIfDone _
  have hlen : s.walker.candidates.tail.length < s.walker.candidates.length := by
    rw [List.length_tail]
    have := List.length_pos_iff.2 h
    omega
  have hle := State.endIfDone_returns { s with walker := { s.walker with
    candidates := s.walker.candidates.tail, counts := f s.walker.counts } }
  have hle : (s.dropCandidate f).walker.candidates.length ≤ s.walker.candidates.tail.length := hle
  unfold State.returns
  rw [hd.roll, hd.req]
  dsimp only
  omega

theorem State.claimGrant_returns (c : Candidate) (hc : s.cm.state.lineOn = true) (h : s.walker.candidates ≠ [])
    (hf : (s.claimGrant c).line.flight = .free) : (s.claimGrant c).returns < s.returns := by
  have hframe := (DirChange.makeOffer .nothing c.ident c.cls hc).frame
  have hret : (s.makeOffer c.ident c.cls (s.nameChoice c.ident c.cls)).returns = s.returns := by
    unfold State.returns; rw [hframe.walker, hframe.roll, hframe.req]
  have hcand : (s.makeOffer c.ident c.cls (s.nameChoice c.ident c.cls)).walker.candidates ≠ [] := by
    rw [hframe.walker]; exact h
  rw [← hret]
  unfold State.claimGrant at hf ⊢
  dsimp only at hf ⊢
  split at hf
  · cases hf
  · cases hf
  · cases hf
  all_goals exact State.dropCandidate_returns _ hcand

theorem State.walkerGrant_returns (hc : s.cm.state.lineOn = true) (hw : s.walker.hasWork = true)
    (hf : s.walkerGrant.line.flight = .free) : s.walkerGrant.returns < s.returns := by
  unfold State.walkerGrant at hf ⊢
  rw [Walker.hasWork_iff] at hw
  split at hf
  · rename_i hst
    split at hf
    · rename_i hcand
      exact State.claimGrant_returns _ hc (by simp [hcand]) hf
    · rename_i hcand
      split at hf
      · cases hf
      · rename_i hstack
        simp [hst, hcand, hstack] at hw
  · cases hf
  · rename_i h1 h2
    exact absurd hw (by rintro (h | h) <;> [exact h2 h; exact h1 h.1])

theorem State.rollGrant_returns (hd : s.roll.due ≠ []) (hf : s.rollGrant.line.flight = .free) :
    s.rollGrant.returns < s.returns := by
  unfold State.rollGrant at hf ⊢
  split at hf
  · obtain ⟨l, hl⟩ := State.endRound_eq { s with roll := { s.roll with due := [] } }
    rw [hl]
    unfold State.returns RollCaller.ended
    dsimp only
    rw [if_neg hd]
    cases ho : s.roll.owed <;> simp
    split <;> omega
  · cases hf

theorem State.serveRequest_returns (k : SlotNo) (q : LineRequest) (hf : (s.serveRequest k q).line.flight = .free) :
    (s.serveRequest k q).returns ≤ s.returns := by
  unfold State.serveRequest at hf ⊢
  split at hf
  · have := List.length_filter_le (fun j => decide (j ≠ k)) s.req.postOrder
    rw [State.completeRequest_eq]
    unfold State.returns
    dsimp only
    omega
  · split at hf
    · cases hf
    · cases hf
    · cases hf
    · exact Nat.le_refl _

theorem State.requestGrant_returns (hp : s.req.postOrder ≠ []) (hf : s.requestGrant.line.flight = .free) :
    s.requestGrant.returns < s.returns := by
  unfold State.requestGrant at hf ⊢
  split at hf
  · exact absurd ‹_› hp
  · rename_i k rest hpo
    dsimp only at hf ⊢
    have hlt : (State.putSlot k { s.slot k with wait := none }
        { s with req := { s.req with postOrder := rest } }).returns < s.returns := by
      unfold State.returns State.putSlot; rw [hpo, List.length_cons]; dsimp only; omega
    split at hf
    · exact Nat.lt_of_le_of_lt (State.serveRequest_returns _ _ hf) hlt
    · exact hlt

/-- A grant that puts nothing in flight uses up a return. -/
theorem State.grant_returns {g : Grant} (hc : s.cm.state.lineOn = true) (hg : s.nextGrant = some g)
    (hf : (s.grant g).line.flight = .free) : (s.grant g).returns < s.returns := by
  cases g with
  | lineClear => cases hf
  | release n => cases hf
  | rotation c =>
    have hw := State.nextGrant_rotation hg
    cases c with
    | walker => exact State.walkerGrant_returns (s := { s with line := { s.line with pointer := .walker } }) hc hw hf
    | rollCaller =>
      refine State.rollGrant_returns (s := { s with line := { s.line with pointer := .rollCaller } }) ?_ hf
      simpa [State.claimantWork] using hw
    | requestUnit =>
      refine State.requestGrant_returns (s := { s with line := { s.line with pointer := .requestUnit } }) ?_ hf
      simpa [State.claimantWork] using hw

theorem State.grant_lineOn (g : Grant) (hc : s.cm.state.lineOn = true) : (s.grant g).cm.state.lineOn = true := by
  rw [show (s.grant g).cm = s.cm from congrArg Kept.cm (s.grant_kept g)]; exact hc

/-- A decision with enough grants leaves no claim on a free line. -/
theorem State.grantLoop_complete {k : Nat} (hc : s.cm.state.lineOn = true) (hk : s.returns < k)
    (hf : (State.grantLoop k s).line.flight = .free) : (State.grantLoop k s).nextGrant = none := by
  induction k generalizing s with
  | zero => exact absurd hk (Nat.not_lt_zero _)
  | succ k ih =>
    unfold State.grantLoop at hf ⊢
    split
    · rename_i hfree
      split
      · rename_i g hg
        rw [if_pos hfree] at hf
        simp only [hg] at hf
        by_cases hfl : (s.grant g).line.flight = .free
        · refine ih (s.grant_lineOn g hc) ?_ hf
          have := State.grant_returns hc hg hfl
          omega
        · rw [State.grantLoop_of_flight _ _ hfl] at hf
          exact absurd hf hfl
      · assumption
    · rename_i hfree
      rw [if_neg hfree] at hf
      exact absurd hf hfree

/-- The bound plays no part once it is enough. -/
theorem State.grantLoop_bound {k j : Nat} (hc : s.cm.state.lineOn = true) (hk : s.returns < k) (hj : s.returns < j) :
    State.grantLoop k s = State.grantLoop j s := by
  induction k generalizing s j with
  | zero => exact absurd hk (Nat.not_lt_zero _)
  | succ k ih =>
    cases j with
    | zero => exact absurd hj (Nat.not_lt_zero _)
    | succ j =>
      unfold State.grantLoop
      split
      · split
        · rename_i g hg
          by_cases hfl : (s.grant g).line.flight = .free
          · have := State.grant_returns hc hg hfl
            exact ih (s.grant_lineOn g hc) (by omega) (by omega)
          · rw [State.grantLoop_of_flight _ _ hfl, State.grantLoop_of_flight _ _ hfl]
        · rfl
      · rfl

theorem State.decideGrant_eq (ha : s.line.active = true) (hc : s.cm.state.lineOn = true) :
    s.decideGrant = State.grantLoop s.grantFuel s := by
  simp [State.decideGrant, State.mayGrant, ha, hc]

/-- After a grant the decision is made again (R52). -/
theorem State.decideGrant_grant {g : Grant} (ha : s.line.active = true) (hc : s.cm.state.lineOn = true)
    (hf : s.line.flight = .free) (hg : s.nextGrant = some g) : s.decideGrant = (s.grant g).decideGrant := by
  have ha' : (s.grant g).line.active = true := by rw [State.grant_active g hc]; exact ha
  have hc' := s.grant_lineOn g hc
  rw [s.decideGrant_of_grant g ha hc hf hg, State.decideGrant_eq ha' hc']
  by_cases hfl : (s.grant g).line.flight = .free
  · have h1 := State.grant_returns hc hg hfl
    have h2 := s.returns_lt_grantFuel
    refine State.grantLoop_bound hc' ?_ (State.returns_lt_grantFuel _)
    unfold State.grantFuel at h2
    omega
  · rw [State.grantLoop_of_flight _ _ hfl, State.grantLoop_of_flight _ _ hfl]

/-- Settles O19: each returned grant uses up one of `State.returns`, of which the bound counts one more than there are. -/
theorem grantDecisionIsComplete : Obligations.GrantDecisionIsComplete := by
  unfold Obligations.GrantDecisionIsComplete
  refine fun s => ⟨fun ha hc => ?_, fun h => ?_⟩
  · rw [← CouplingState.lineOn_iff] at hc
    refine ⟨fun hf => ?_, fun g hf hg => State.decideGrant_grant ha hc hf hg⟩
    rw [State.decideGrant_eq ha hc] at hf ⊢
    exact State.grantLoop_complete hc s.returns_lt_grantFuel hf
  · rcases h with h | h | h
    · exact s.decideGrant_of_inactive h
    · exact s.decideGrant_of_lineOff ((CouplingState.lineOn_eq_false_iff _).2 h)
    · exact s.decideGrant_of_flight h

end Sys2Proof.Machine
end

section
/-! PROOFS. What each grant puts in flight (sections 3.6, 3.8, 3.9, 6.3, 7.4 and 9.3). -/

namespace Sys2Proof.Machine

variable {s t u : State}

/-! ### The request unit's grant (R148, R152, R153) -/

theorem writeData_nil (d : Vector Word 16) : writeData [] d = d := by
  ext i hi
  simp [writeData]

theorem Slot.ended_nil (r : Result) (c : Slot) :
    c.ended r [] = { c with phase := .done, result := r, latched := none, wait := none } := by
  simp only [Slot.ended, writeData_nil]

theorem Entry.isFree_iff (e : Entry) : e.isFree = true ↔ e.state = .vacant ∧ e.owed = false := by
  simp [Entry.isFree]

/-- The call that opens the group of a request of the post-order list, and the name it is for. -/
def opensWith (q : LineRequest) (n : Name) (c : Call) : Prop :=
  (∃ a k, q = .read n a k ∧ c = .read n a k) ∨ (∃ a ws, q = .write n a ws ∧ c = .write n a ws) ∨
    ∃ m, q = .move n m ∧ c = .release n

section
variable {k : SlotNo} {rest : List SlotNo} {q : LineRequest}
  (hp : s.req.postOrder = k :: rest) (hq : (s.slot k).latched = some q)
include hp hq

/-- The slot at the head of the list and the rest of it. -/
theorem State.requestGrant_eq : s.requestGrant = State.serveRequest k q (State.putSlot k { s.slot k with wait := none }
    { s with req := { s.req with postOrder := rest } }) := by
  unfold State.requestGrant
  rw [hp]; simp only [hq]

theorem State.requestGrant_refused {r : Result} (hr : s.entryCheck q = some r) : s.requestGrant = { s with
    req := { s.req with
      slots := s.req.slots.set k.val { s.slot k with phase := .done, result := r, latched := none, wait := none } k.isLt
      postOrder := rest.filter (fun j => j ≠ k) }
    port := { s.port with alert := s.port.alert ||| 4#7 } } := by
  rw [State.requestGrant_eq hp hq]
  unfold State.serveRequest
  rw [show State.entryCheck q (State.putSlot k { s.slot k with wait := none }
    { s with req := { s.req with postOrder := rest } }) = some r from hr]
  simp only [State.completeRequest_eq, State.slot_putSlot, if_true, Slot.ended_nil]
  simp [State.putSlot]

theorem State.requestGrant_served {n : Name} {c : Call} (hr : s.entryCheck q = none) (hc : opensWith q n c) :
    s.requestGrant = { s with
      line := { s.line with flight := .sending .requestUnit c }
      req := { s.req with
        slots := s.req.slots.set k.val { s.slot k with phase := .onLine, result := .ok, wait := none } k.isLt
        postOrder := rest
        hand := some { slot := k, attempts := 1, garbled := false, ident := (s.entry n).ident
                       claimSilent := false } } } := by
  rw [State.requestGrant_eq hp hq]
  unfold State.serveRequest
  rw [show State.entryCheck q (State.putSlot k { s.slot k with wait := none }
    { s with req := { s.req with postOrder := rest } }) = none from hr]
  obtain ⟨a, j, rfl, rfl⟩ | ⟨a, ws, rfl, rfl⟩ | ⟨m, rfl, rfl⟩ := hc
  all_goals
    simp only [State.goOnLine_eq, State.slot_putSlot, if_true]
    simp [State.putSlot, State.entry_eq]

end

/-- The entry check of a request by its entry's state and a MOVE's target (R146 check 5). -/
theorem State.entryCheck_of_opensWith {q : LineRequest} {n : Name} {c : Call} (hc : opensWith q n c) :
    s.entryCheck q = match entryRefusal (s.entry n).state with
      | some r => some r
      | none => if ∀ m, q = .move n m → (s.entry m).isFree = true then none else some .nameTaken := by
  obtain ⟨a, j, rfl, -⟩ | ⟨a, ws, rfl, -⟩ | ⟨m, rfl, -⟩ := hc
  · simp only [State.entryCheck]; cases entryRefusal (s.entry n).state <;> simp
  · simp only [State.entryCheck]; cases entryRefusal (s.entry n).state <;> simp
  · simp only [State.entryCheck]; cases entryRefusal (s.entry n).state <;> simp

/-! ### The other grants -/

theorem EntryState.rolled_eq (st : EntryState) : st.rolled = decide (st = .bound ∨ st = .held ∨ st = .stale) := by
  cases st <;> rfl

theorem State.fitNames_eq : s.fitNames = s.roll.due.filter fun m =>
    decide ((s.entry m).state = .bound ∨ (s.entry m).state = .held ∨ (s.entry m).state = .stale) := by
  simp only [State.fitNames, EntryState.rolled_eq]

theorem State.rollGrant_of_fit {n : Name} {rest : List Name} (h : s.fitNames = n :: rest) : s.rollGrant = { s with
    line := { s.line with flight := .sending .rollCaller (.roll n) }
    roll := { s.roll with due := n :: rest, hand := some ⟨n, (s.entry n).state, (s.entry n).ident, 1⟩ } } := by
  unfold State.rollGrant; rw [h]; rfl

theorem State.rollGrant_of_none (h : s.fitNames = []) :
    s.rollGrant = State.endRound { s with roll := { s.roll with due := [] } } := by
  unfold State.rollGrant; rw [h]

theorem State.walkerGrant_seek {p : Prefix} {rest : List Prefix} (hst : s.walker.state = .walking)
    (hc : s.walker.candidates = []) (hs : s.walker.stack = p :: rest) : s.walkerGrant = s.seekGrant p rest := by
  unfold State.walkerGrant; simp only [hst, hc, hs]

theorem State.walkerGrant_sweep (hst : s.walker.state = .sweepDue) : s.walkerGrant = s.sweepGrant := by
  unfold State.walkerGrant; simp only [hst]

/-- Settles O20: one grant by its kind, with the decision over where it puts a call in flight. -/
theorem grantEffects : Obligations.GrantEffects := by
  unfold Obligations.GrantEffects
  intro s ha hc hf
  rw [← CouplingState.lineOn_iff] at hc
  have hsent : ∀ {g : Grant} {t : State}, s.nextGrant = some g → s.grant g = t → t.line.flight ≠ .free →
      s.decideGrant = t := fun hg ht hfl => by
    subst ht
    exact State.decideGrant_of_sent ha hc hf hg hfl
  refine ⟨fun hg => hsent hg rfl (by simp), fun n hg => hsent hg rfl (by simp),
    fun p rest hg hst hcand hstack => hsent hg ?_ (by simp), fun hg hst => hsent hg ?_ (by simp),
    fun n rest hg hfit => hsent hg ?_ (by simp), fun _ hno => ?_,
    fun k rest q c n m e free hg hpo hq he hfree hopen => ?_⟩
  · exact State.walkerGrant_seek (s := { s with line := { s.line with pointer := .walker } }) hst hcand hstack
  · exact State.walkerGrant_sweep (s := { s with line := { s.line with pointer := .walker } }) hst
  · refine State.rollGrant_of_fit (s := { s with line := { s.line with pointer := .rollCaller } }) ?_
    rw [State.fitNames_eq]; exact hfit
  · refine State.rollGrant_of_none (s := { s with line := { s.line with pointer := .rollCaller } }) ?_
    rw [State.fitNames_eq, List.filter_eq_nil_iff]
    intro n hn
    obtain ⟨h1, h2, h3⟩ := hno n hn
    have he : ({ s with line := { s.line with pointer := .rollCaller } } : State).entry n = s.entry n := rfl
    simp [he, h1, h2, h3]
  · have hopen' : opensWith q n c := by
      obtain h | h | ⟨h1, h2⟩ := hopen
      · exact .inl h
      · exact .inr (.inl h)
      · exact .inr (.inr ⟨m, h1, h2⟩)
    have hm : (∀ j, q = .move n j → (s.entry j).isFree = true) ↔ (q = .move n m → free) := by
      rw [hfree, ← Entry.isFree_iff]
      refine ⟨fun h => h m, fun h j hj => ?_⟩
      obtain ⟨_, _, rfl, -⟩ | ⟨_, _, rfl, -⟩ | ⟨rfl, -⟩ := hopen
      · cases hj
      · cases hj
      · obtain rfl : m = j := by injection hj
        exact h rfl
    have hcheck := State.entryCheck_of_opensWith (s := s) hopen'
    subst he
    refine ⟨fun hb hfr => hsent hg ?_ (by simp), fun r hr => ?_⟩
    · refine State.requestGrant_served (s := { s with line := { s.line with pointer := .requestUnit } }) hpo hq ?_ hopen'
      refine hcheck.trans ?_
      simp only [hb, entryRefusal]
      rw [if_pos (hm.2 hfr)]
    · refine State.requestGrant_refused (s := { s with line := { s.line with pointer := .requestUnit } }) hpo hq ?_
      refine hcheck.trans ?_
      obtain ⟨h, rfl⟩ | ⟨h, rfl⟩ | ⟨h, rfl⟩ | ⟨h, hmove, hnf, rfl⟩ := hr
      · simp [h, entryRefusal]
      · rcases h with h | h <;> simp [h, entryRefusal]
      · rcases h with h | h | h <;> simp [h, entryRefusal]
      · simp only [h, entryRefusal]
        rw [if_neg (fun h => hnf (hm.1 h hmove))]

/-! ### The serving notices (R10, R165) -/

theorem exec_lineServingNotice (s : State) : exec .lineServingNotice s =
    .next (if s.line.active = true ∧ s.cm.state = .serving then State.decideGrant { s with
      line := { s.line with serving := true }, given := s.given.erase .lineServingNotice }
      else s.take .lineServingNotice) := rfl

theorem exec_requestServingNotice (s : State) : exec .requestServingNotice s =
    .next (if s.req.postOrder = [] then s.take .requestServingNotice
      else (s.take .requestServingNotice).decideGrant) := rfl

/-- With neither a line clear, a release, a pass nor a round the request unit is next, once it takes part. -/
theorem State.nextGrant_requestUnit {k : SlotNo} {rest : List SlotNo} (h1 : s.line.clearOwed = false)
    (h2 : s.line.releases = []) (h3 : s.walker.state = .idle) (h4 : s.roll.due = []) (h5 : s.req.postOrder = k :: rest) :
    s.nextGrant = if s.line.serving then some (.rotation .requestUnit) else none := by
  rw [State.nextGrant_of_rotation h1 h2]
  unfold State.nextClaimant
  cases s.line.pointer <;> cases hs : s.line.serving <;>
    simp [rotationAfter, State.takesPart, State.claimantWork, Walker.hasWork, h3, h4, h5, hs]

/-- A waiting READ of a BOUND entry goes on the line. -/
theorem State.decideGrant_read {k : SlotNo} {rest : List SlotNo} {n : Name} {a : Word} {c : Nat}
    (ha : s.line.active = true) (hc : s.cm.state.lineOn = true) (hf : s.line.flight = .free)
    (h1 : s.line.clearOwed = false) (h2 : s.line.releases = []) (h3 : s.walker.state = .idle) (h4 : s.roll.due = [])
    (h5 : s.req.postOrder = k :: rest) (hq : (s.slot k).latched = some (.read n a c)) (hb : (s.entry n).state = .bound)
    (hs : s.line.serving = true) : s.decideGrant = { s with
      line := { s.line with pointer := .requestUnit, flight := .sending .requestUnit (.read n a c) }
      req := { s.req with
        slots := s.req.slots.set k.val { s.slot k with phase := .onLine, result := .ok, wait := none } k.isLt
        postOrder := rest
        hand := some { slot := k, attempts := 1, garbled := false, ident := (s.entry n).ident
                       claimSilent := false } } } := by
  have hg : s.nextGrant = some (.rotation .requestUnit) := by
    rw [State.nextGrant_requestUnit h1 h2 h3 h4 h5, if_pos hs]
  have hgrant := State.requestGrant_served (s := { s with line := { s.line with pointer := .requestUnit } }) h5 hq
    (n := n) (c := .read n a c) (by simp [State.entryCheck, State.entry_eq, entryRefusal] at hb ⊢; simp [hb])
    (.inl ⟨a, c, rfl, rfl⟩)
  have hgrant : s.grant (.rotation .requestUnit) = _ := hgrant
  rw [State.decideGrant_of_sent ha hc hf hg (by rw [hgrant]; simp), hgrant]
  rfl

/-- Settles O21. -/
theorem servingNoticesEitherOrder : Obligations.ServingNoticesEitherOrder := by
  unfold Obligations.ServingNoticesEitherOrder
  refine ⟨fun s k rest n a c ha hc hf h1 h2 h3 h4 h5 hq hb served hserved => ?_, fun s told asked htold hasked => ?_⟩
  · rw [← CouplingState.lineOn_iff] at hc
    refine ⟨fun hs => ?_, fun hs => ?_, fun hs => ?_⟩
    · rw [exec_lineServingNotice, if_pos ⟨ha, hs⟩, hserved,
        State.decideGrant_read (s := { s with
          line := { s.line with serving := true }, given := s.given.erase .lineServingNotice })
          ha hc hf h1 h2 h3 h4 h5 hq hb rfl]
      rfl
    · rw [exec_requestServingNotice, if_neg (by simp [h5]), hserved,
        State.decideGrant_read (s := s.take .requestServingNotice) ha hc hf h1 h2 h3 h4 h5 hq hb hs]
      simp only [← hs]; rfl
    · rw [exec_requestServingNotice, if_neg (by simp [h5]), State.decideGrant_of_none]
      · rfl
      · rw [State.nextGrant_requestUnit (s := s.take .requestServingNotice) h1 h2 h3 h4 h5, if_neg (by simp [hs])]
  · have hask : asked = s.take .requestServingNotice := hasked
    refine ⟨fun ha hs => ?_, fun h => ?_, fun h => ?_, fun h => ?_⟩
    · have he : exec .lineServingNotice s = .next told.decideGrant := by
        rw [exec_lineServingNotice, if_pos ⟨ha, hs⟩, htold]
      refine ⟨he, fun h => he.trans ?_⟩
      obtain h | h := h
      · rw [State.decideGrant_of_flight _ (by rw [htold]; exact h)]
      · rw [State.decideGrant_of_none _ h]
    · rw [exec_lineServingNotice, if_neg]
      · rfl
      · rintro ⟨ha, hs⟩
        rcases h with h | h
        · exact absurd (ha.symm.trans h) Bool.true_eq_false.mp
        · exact h hs
    · rw [exec_requestServingNotice, if_neg h, hask]
    · rw [exec_requestServingNotice]
      split
      · rw [hask]
      · rename_i hp
        rw [hask]
        obtain h | h | h | h := h
        · exact absurd h hp
        · rw [State.decideGrant_of_inactive (s.take .requestServingNotice) h]
        · rw [State.decideGrant_of_flight (s.take .requestServingNotice) h]
        · rw [State.decideGrant_of_none (s.take .requestServingNotice) h]

end Sys2Proof.Machine
end

section
/-! PROOFS. Calls sent, the call gap, the line clear and the windows of a seek (chapters 3 and 4). -/

namespace Sys2Proof.Machine

variable {s t u : State}

/-! ### A change of one entry or of many as a record (R73) -/

theorem gen_add_two_ne (g : Word) : g + 2 ≠ g := by bv_omega

/-- Entry n holds `e` afterwards, with ALERT.DIRECTORY where that is a change. -/
def State.entryNow (n : Name) (e : Entry) (s : State) : State := { s with
  dir := { s.dir with entries := s.dir.entries.set n.val e n.isLt }
  port := { s.port with alert := if e = s.entry n then s.port.alert else s.port.alert ||| 2#7 } }

theorem State.entryNow_same (n : Name) (s : State) : s.entryNow n (s.entry n) = s := by
  have h : s.dir.entries.set n.val (s.entry n) n.isLt = s.dir.entries := by
    ext i hi
    rw [Vector.getElem_set]
    split
    · rename_i h; subst h; rfl
    · rfl
  simp only [State.entryNow, h, if_true]

/-- A stable change as the entry it leaves. -/
theorem State.stableEntry_eq_entryNow {n : Name} {e e' : Entry} (h : e' = { e with gen := (s.entry n).gen + 2 }) :
    s.stableEntry n e = s.entryNow n e' := by
  have hne : e' ≠ s.entry n := fun he => gen_add_two_ne (s.entry n).gen (congrArg Entry.gen (h.symm.trans he))
  rw [State.stableEntry_eq, State.entryNow, if_neg hne, h]

/-- A change of many entries as the entries it leaves: each is as before, or has received its own stable change. -/
theorem State.stableAll_eq_ofFn {f : Name → Entry → Option Entry} {e : Name → Entry}
    (h : ∀ n, (f n (s.entry n) = none ∧ e n = s.entry n) ∨
      ∃ e', f n (s.entry n) = some e' ∧ e n = { e' with gen := (s.entry n).gen + 2 }) :
    s.stableAll f = { s with
      dir := { s.dir with entries := Vector.ofFn e }
      port := { s.port with alert := if ∀ n : Name, e n = s.entry n then s.port.alert else s.port.alert ||| 2#7 } } := by
  have hentries : (s.stableAll f).dir.entries = Vector.ofFn e := by
    ext i hi
    have hn := s.entry_stableAll f ⟨i, hi⟩
    rw [State.entry_eq] at hn
    refine hn.trans ?_
    rw [Vector.getElem_ofFn]
    obtain ⟨h1, h2⟩ | ⟨e', h1, h2⟩ := h ⟨i, hi⟩
    · rw [h1, h2]
    · rw [h1, h2, genAfter_eq]
  have hany : (allNames.any fun n => (f n (s.entry n)).isSome) = true ↔ ¬ ∀ n : Name, e n = s.entry n := by
    rw [List.any_eq_true]
    push Not
    refine ⟨fun ⟨n, _, hn⟩ => ⟨n, ?_⟩, fun ⟨n, hn⟩ => ⟨n, List.mem_finRange n, ?_⟩⟩
    · obtain ⟨h1, -⟩ | ⟨e', -, h2⟩ := h n
      · rw [h1] at hn; cases hn
      · exact fun he => gen_add_two_ne (s.entry n).gen (congrArg Entry.gen (h2.symm.trans he))
    · obtain ⟨-, h2⟩ | ⟨e', h1, -⟩ := h n
      · exact absurd h2 hn
      · rw [h1]; rfl
  rw [State.stableAll_eq, hentries]
  by_cases hall : ∀ n : Name, e n = s.entry n
  · rw [if_pos hall, if_neg (by rw [hany]; exact not_not.2 hall)]
  · rw [if_neg hall, if_pos (hany.2 hall)]

/-! ### Calls sent (R38 to R42, R49, R68) -/

theorem exec_callSent_sending {b : Claimant} {k : Call} (h : s.line.flight = .sending b k)
    (hb : b ≠ .rollCaller ∨ s.roll.hand ≠ none) : exec .callSent s = .next (s.claimantCallSent b k) := by
  have he : exec .callSent s = .next (match s.line.flight with
    | .releasing n => s.releaseSent n
    | .sending b c => if s.rollWithdrawn b then s.freeLine.decideGrant else s.claimantCallSent b c
    | _ => s) := rfl
  rw [he, h]
  simp only [s.rollWithdrawn_of_hand b hb, Bool.false_eq_true, if_false]

theorem exec_callSent_withdrawn {k : Call} (h : s.line.flight = .sending .rollCaller k) (hh : s.roll.hand = none) :
    exec .callSent s = .next s.freeLine.decideGrant := by
  have he : exec .callSent s = .next (match s.line.flight with
    | .releasing n => s.releaseSent n
    | .sending b c => if s.rollWithdrawn b then s.freeLine.decideGrant else s.claimantCallSent b c
    | _ => s) := rfl
  rw [he, h]
  simp only [(s.rollWithdrawn_iff .rollCaller).2 ⟨rfl, hh⟩, if_true]

theorem exec_callSent_releasing {n : Name} (h : s.line.flight = .releasing n) :
    exec .callSent s = .next (s.releaseSent n) := by
  have he : exec .callSent s = .next (match s.line.flight with
    | .releasing n => s.releaseSent n
    | .sending b c => if s.rollWithdrawn b then s.freeLine.decideGrant else s.claimantCallSent b c
    | _ => s) := rfl
  rw [he, h]

/-- What the release-sent notice makes of its entry (R77). -/
theorem State.takeReleaseSent_eq {n : Name} {e' : Entry}
    (h1 : (s.entry n).state = .vacant → (s.entry n).owed = true →
      e' = { s.entry n with gen := (s.entry n).gen + 2, owed := false })
    (h2 : (s.entry n).state = .disputed → s.dir.ackMask.conflict = true →
      e' = { s.entry n with gen := (s.entry n).gen + 2, state := .retiring, owed := false })
    (h3 : (s.entry n).state = .disputed → s.dir.ackMask.conflict = false →
      e' = { gen := (s.entry n).gen + 2, state := .vacant })
    (h4 : (s.entry n).state ≠ .vacant ∨ (s.entry n).owed = false → (s.entry n).state ≠ .disputed → e' = s.entry n) :
    s.takeReleaseSent n = s.entryNow n e' := by
  unfold State.takeReleaseSent; dsimp only
  split
  · rename_i hs
    split
    · rename_i ho
      exact State.stableEntry_eq_entryNow (h1 hs ho)
    · rename_i ho
      rw [h4 (.inr (by simpa using ho)) (by simp [hs]), State.entryNow_same]
  · rename_i hs
    refine State.stableEntry_eq_entryNow ?_
    unfold resolvedDispute
    split
    · rename_i hc; exact h2 hs hc
    · rename_i hc; exact h3 hs (by simpa using hc)
  · rename_i hv hd
    rw [h4 (.inl hv) hd, State.entryNow_same]

/-- Settles O22: each kind of call by the flight it leaves. -/
theorem callSentByKind : Obligations.CallSentByKind := by
  unfold Obligations.CallSentByKind
  refine fun s => ⟨fun b k h hk hb => ?_, fun k h hh => exec_callSent_withdrawn h hh, fun b p w h hb hw => ?_,
    fun n e e' h he h1 h2 h3 h4 => ?_, fun b m h hb hno => ?_⟩
  · rw [exec_callSent_sending h hb]
    cases k with
    | seek p => exact absurd rfl hk
    | release m => exact absurd rfl hk
    | _ => rfl
  · subst hw
    exact ⟨exec_callSent_sending h hb, rfl, fun time => ⟨fun ht => if_pos ht, fun ht => if_neg (Nat.not_lt.2 ht)⟩⟩
  · subst he
    rw [exec_callSent_releasing h]
    unfold State.releaseSent
    rw [State.takeReleaseSent_eq (s := s.leaveRelease n) h1 h2 h3 h4]
    rfl
  · rw [exec_callSent_sending h hb]
    have hhand : s.moveInHand = none := by
      unfold State.moveInHand
      split
      · rfl
      · rename_i d hd
        split
        · rename_i a c hl; exact absurd hl (hno d a c hd)
        · rfl
    show Host.Outcome.next (s.moveReleaseSent m) = _
    unfold State.moveReleaseSent; dsimp only
    rw [hhand]
    rfl

/-! ### The call gap (R70) -/

theorem exec_callGapEnd_gap {b : Claimant} {k : Call} (h : s.line.flight = .gap b k) : exec .callGapEnd s =
    .next (if s.rollWithdrawn b then s.freeLine.decideGrant else s.setFlight (.sending b k)) := by
  have he : exec .callGapEnd s = .next (match s.line.flight with
    | .gap b c => if s.rollWithdrawn b then s.freeLine.decideGrant else s.setFlight (.sending b c)
    | _ => s) := rfl
  rw [he, h]

theorem exec_of_gap {b : Claimant} {k : Call} {c : Instr} (h : s.line.flight = .gap b k)
    (hc : c = .callSent ∨ (∃ e, c = .answerEnd e) ∨ ∃ e, c = .windowEnd e) : exec c s = .next s := by
  obtain rfl | ⟨e, rfl⟩ | ⟨e, rfl⟩ := hc
  · have he : exec .callSent s = .next (match s.line.flight with
      | .releasing n => s.releaseSent n
      | .sending b c => if s.rollWithdrawn b then s.freeLine.decideGrant else s.claimantCallSent b c
      | _ => s) := rfl
    rw [he, h]
  · have he : exec (.answerEnd e) s = .next (match s.line.flight with
      | .listening b c => s.claimantAnswer b c (hearAnswer c e)
      | _ => s) := rfl
    rw [he, h]
  · have he : exec (.windowEnd e) s = .next (match s.line.flight with
      | .windows heard =>
        if windowCount ≤ (heard ++ [hearWindow e]).length then
          (s.freeLine.handWindows (heard ++ [hearWindow e])).decideGrant
        else s.setFlight (.windows (heard ++ [hearWindow e]))
      | _ => s) := rfl
    rw [he, h]

/-! ### The windows of a seek (R43, R44) -/

theorem exec_windowEnd_windows {heard : List Window} (edges : List LineEdge) (h : s.line.flight = .windows heard) :
    exec (.windowEnd edges) s = .next (if 16 ≤ (heard ++ [hearWindow edges]).length then
      (s.freeLine.handWindows (heard ++ [hearWindow edges])).decideGrant
      else s.setFlight (.windows (heard ++ [hearWindow edges]))) := by
  have he : exec (.windowEnd edges) s = .next (match s.line.flight with
    | .windows heard =>
      if windowCount ≤ (heard ++ [hearWindow edges]).length then
        (s.freeLine.handWindows (heard ++ [hearWindow edges])).decideGrant
      else s.setFlight (.windows (heard ++ [hearWindow edges]))
    | _ => s) := rfl
  rw [he, h]
  rfl

/-! ### The line clear (R46, R95, R117) -/

theorem exec_lineClearLowEnd_clearLow (h : s.line.flight = .clearLow) :
    exec .lineClearLowEnd s = .next (s.setFlight .clearIdle) := by
  have he : exec .lineClearLowEnd s = .next (match s.line.flight with
    | .clearLow => s.setFlight .clearIdle
    | _ => s) := rfl
  rw [he, h]

theorem exec_lineClearSent_clearIdle (h : s.line.flight = .clearIdle) :
    exec .lineClearSent s = .next s.clearSent := by
  have he : exec .lineClearSent s = .next (match s.line.flight with
    | .clearIdle => s.clearSent
    | _ => s) := rfl
  rw [he, h]

/-- What a line clear makes of an entry, as its new content. -/
structure ClearsEntry (conflict : Bool) (keepRounds : Nat) (e e' : Entry) : Prop where
  live : e.state = .bound ∨ e.state = .held →
    e' = { e with gen := e.gen + 2, state := .stale, strikes := 0, keep := keepRounds }
  retires : e.state = .disputed → conflict = true →
    e' = { e with gen := e.gen + 2, state := .retiring, owed := false }
  frees : e.state = .disputed → conflict = false → e' = { gen := e.gen + 2, state := .vacant }
  released : e.state = .vacant → e.owed = true → e' = { e with gen := e.gen + 2, owed := false }
  stays : (e.state = .vacant ∧ e.owed = false) ∨ e.state = .offered ∨ e.state = .stale ∨ e.state = .retiring → e' = e

theorem ClearsEntry.lineClearEntry {m : AckMask} {k : Nat} {e e' : Entry} (h : ClearsEntry m.conflict k e e') :
    (lineClearEntry k m e = none ∧ e' = e) ∨
    ∃ d, lineClearEntry k m e = some d ∧ e' = { d with gen := e.gen + 2 } := by
  unfold Machine.lineClearEntry
  cases hs : e.state with
  | bound => exact .inr ⟨_, rfl, h.live (.inl hs)⟩
  | held => exact .inr ⟨_, rfl, h.live (.inr hs)⟩
  | disputed =>
    refine .inr ⟨_, rfl, ?_⟩
    unfold resolvedDispute
    split
    · rename_i hc; exact h.retires hs hc
    · rename_i hc; exact h.frees hs (by simpa using hc)
  | vacant =>
    cases ho : e.owed with
    | true => exact .inr ⟨_, rfl, (h.released hs ho).trans (by rw [hs])⟩
    | false => exact .inl ⟨rfl, h.stays (.inl ⟨hs, ho⟩)⟩
  | offered => exact .inl ⟨rfl, h.stays (.inr (.inl hs))⟩
  | stale => exact .inl ⟨rfl, h.stays (.inr (.inr (.inl hs)))⟩
  | retiring => exact .inl ⟨rfl, h.stays (.inr (.inr (.inr hs)))⟩

theorem State.directoryLineClear_eq {cleared : Entry → Entry}
    (h : ∀ e, ClearsEntry s.dir.ackMask.conflict s.roll.keepRounds e (cleared e)) :
    s.directoryLineClear = { s with
      dir := { s.dir with entries := Vector.ofFn fun n => cleared (s.entry n) }
      port := { s.port with alert :=
        if ∀ n : Name, cleared (s.entry n) = s.entry n then s.port.alert else s.port.alert ||| 2#7 } } := by
  unfold State.directoryLineClear
  rw [State.stableAll_eq_ofFn (e := fun n => cleared (s.entry n)) fun n => (h (s.entry n)).lineClearEntry]

/-- A pass closed for a RESEAT and a fresh one started, with no call of the walker in flight (R117). -/
theorem State.walkerLineClear_walking (hw : s.walker.state = .walking) (hc : s.cm.state ≠ .discovering)
    (hf : s.walkerInFlight = false) : s.walkerLineClear = { s with
      walker := { s.walker with
        state := .walking, stack := [[]], candidates := [], claim := none, seeking := none
        record := ⟨s.walker.passNumber, .incomplete, s.walker.counts⟩
        passNumber := s.walker.passNumber + 1, counts := ⟨0, 0, 0, 0, 0, 0, 0, 0⟩, sweepCount := 0
        owed := false }
      port := { s.port with recGen := s.port.recGen + 2, alert := s.port.alert ||| 8#7 }
      given := s.given ++ [.passEndReport .incomplete false, .passStartReport] } := by
  have hf' : ∀ w : Walker, ∀ p g, State.walkerInFlight { s with walker := w, port := p, given := g } = false :=
    fun _ _ _ => hf
  unfold State.walkerLineClear
  simp only [hw, hc, if_false, State.closePass_eq, State.startPass_eq, hf, hf', Bool.false_eq_true, passResultOf,
    followUpWanted, attemptsAfter, List.append_assoc, List.cons_append, List.nil_append, reduceCtorEq, false_and]

theorem perm_given_pair (g : List Instr) (a b : Instr) : (g ++ [a] ++ [b]).Perm (g ++ [a, b]) := by
  rw [List.append_assoc]; rfl

/-- Settles O23: gap, clear and windows. -/
theorem lineTimers : Obligations.LineTimers := by
  unfold Obligations.LineTimers
  refine ⟨⟨fun s b k h => ⟨fun hb => ?_, fun hb hh => ?_⟩, fun s b k c h hc => exec_of_gap h hc⟩,
    ⟨fun s h => exec_lineClearLowEnd_clearLow h, fun s v cleared h hcl hv => ?_⟩,
    fun s edges heard h => ⟨fun hl => ?_, fun hl => ?_⟩⟩
  · rw [exec_callGapEnd_gap h, if_neg (by simp [s.rollWithdrawn_of_hand b hb])]; rfl
  · rw [exec_callGapEnd_gap h, if_pos ((s.rollWithdrawn_iff b).2 ⟨hb, hh⟩)]; rfl
  · have hclear : State.directoryLineClear { s with line := { s.line with releases := [] } } =
        { v with line := { s.line with releases := [] } } := by
      rw [State.directoryLineClear_eq (s := { s with line := { s.line with releases := [] } }) (cleared := cleared)
        fun e => by
          obtain ⟨h1, h2, h3, h4, h5⟩ := hcl e
          exact ⟨h1, h2, h3, h4, h5⟩]
      rw [hv]; rfl
    have hexec : exec .lineClearSent s = .next (State.decideGrant (State.freeLine (State.give [.requestLineClearSent]
        (State.tellWalkerClear { v with line := { s.line with releases := [] } })))) := by
      rw [exec_lineClearSent_clearIdle h, ← hclear]; rfl
    rw [hexec]
    unfold State.tellWalkerClear
    have hw : v.walker = s.walker := by rw [hv]
    have hcm : v.cm = s.cm := by rw [hv]
    have hg : v.given = s.given := by rw [hv]
    have hl : v.line = { s.line with releases := [], flight := .free } := by rw [hv]
    refine ⟨fun hn => ⟨s.given ++ [.walkerLineClearSent] ++ [.requestLineClearSent], perm_given_pair .., ?_⟩,
      fun hn hd => ?_, fun hn hd => ⟨s.given ++ [.passEndReport .incomplete false, .passStartReport] ++
        [.requestLineClearSent], by rw [List.append_assoc]; rfl, ?_⟩⟩
    · rw [if_neg (by rw [hw]; exact hn)]
      simp only [State.give, State.freeLine, State.setFlight, hg, hl]
    · rw [if_pos (by rw [hw]; exact hn)]
      have hstay : State.walkerLineClear { v with line := { s.line with releases := [] } } =
          { v with line := { s.line with releases := [] } } := by
        unfold State.walkerLineClear
        simp only [hw, hcm, hn, hd, if_true]
      rw [hstay]
      simp only [State.give, State.freeLine, State.setFlight, hg, hl]
    · rw [if_pos (by rw [hw]; exact hn)]
      rw [State.walkerLineClear_walking (s := { v with line := { s.line with releases := [] } })
        (by rw [hw]; exact hn) (by rw [hcm]; exact hd) (by simp [State.walkerInFlight, h])]
      have hport : v.port.recGen = s.port.recGen := by rw [hv]
      simp only [State.give, State.freeLine, State.setFlight, hg, hl, hw, hport]
  · rw [exec_windowEnd_windows edges h, if_neg (by simp; omega)]; rfl
  · rw [exec_windowEnd_windows edges h, if_pos (by simp; omega)]; rfl

end Sys2Proof.Machine
end

section
/-! PROOFS. The frames of calls: bytes of words, identities and prefixes, and the check (sections 4.2 to 4.8 and 11.7). -/

namespace Sys2Proof.Machine

/-! ### Bytes and digits as numbers -/

/-- A number shifted up with a digit put in. -/
theorem toNat_shift_or {w : Nat} (hw : w ≤ 48) (acc : BitVec 48) (d : BitVec w) :
    ((acc <<< w) ||| d.setWidth 48).toNat = (acc.toNat * 2 ^ w + d.toNat) % 2 ^ 48 := by
  have hd : d.toNat < 2 ^ w := d.isLt
  have hd48 : d.toNat < 2 ^ 48 := Nat.lt_of_lt_of_le hd (Nat.pow_le_pow_right (by omega) hw)
  have hlow : acc.toNat * 2 ^ w % 2 ^ 48 = (acc.toNat * 2 ^ w % 2 ^ 48 / 2 ^ w) * 2 ^ w := by
    have hdvd : 2 ^ w ∣ acc.toNat * 2 ^ w % 2 ^ 48 :=
      (Nat.dvd_mod_iff (Nat.pow_dvd_pow 2 hw)).2 (Nat.dvd_mul_left _ _)
    exact (Nat.div_mul_cancel hdvd).symm
  rw [BitVec.toNat_or, BitVec.toNat_shiftLeft, BitVec.toNat_setWidth, Nat.mod_eq_of_lt hd48, Nat.shiftLeft_eq, hlow,
    ← Nat.shiftLeft_eq, ← Nat.shiftLeft_add_eq_or_of_lt hd, Nat.shiftLeft_eq, ← hlow]
  have h48 : acc.toNat * 2 ^ w % 2 ^ 48 / 2 ^ w * 2 ^ w + d.toNat < 2 ^ 48 := by
    have hq : acc.toNat * 2 ^ w % 2 ^ 48 / 2 ^ w < 2 ^ (48 - w) := by
      refine Nat.div_lt_of_lt_mul ?_
      rw [← Nat.pow_add, Nat.add_sub_cancel' hw]
      exact Nat.mod_lt _ (by positivity)
    calc _ < acc.toNat * 2 ^ w % 2 ^ 48 / 2 ^ w * 2 ^ w + 2 ^ w := by omega
      _ = (acc.toNat * 2 ^ w % 2 ^ 48 / 2 ^ w + 1) * 2 ^ w := by rw [Nat.add_mul, Nat.one_mul]
      _ ≤ 2 ^ (48 - w) * 2 ^ w := Nat.mul_le_mul_right _ hq
      _ = 2 ^ 48 := by rw [← Nat.pow_add, Nat.sub_add_cancel hw]
  rw [← hlow] at h48
  rw [← Nat.mod_eq_of_lt h48, Nat.mod_add_mod]

/-- The number that digits of base 2 ^ w write, the most significant first. -/
theorem toNat_foldl_shift_or {w : Nat} (hw : w ≤ 48) (ds : List (BitVec w)) (acc : BitVec 48) :
    (List.foldl (fun (n : BitVec 48) (d : BitVec w) => (n <<< w) ||| d.setWidth 48) acc ds).toNat =
      ds.foldl (fun n d => 2 ^ w * n + d.toNat) acc.toNat % 2 ^ 48 := by
  have hmod : ∀ (ds : List (BitVec w)) (n : Nat), ds.foldl (fun n d => 2 ^ w * n + d.toNat) (n % 2 ^ 48) % 2 ^ 48 =
      ds.foldl (fun n d => 2 ^ w * n + d.toNat) n % 2 ^ 48 := fun ds => by
    induction ds with
    | nil => intro n; exact Nat.mod_mod _ _
    | cons d rest ih =>
      intro n
      rw [List.foldl_cons, List.foldl_cons, ← ih, ← ih (2 ^ w * n + d.toNat)]
      congr 2
      rw [Nat.add_mod, Nat.mul_mod_mod, ← Nat.add_mod]
  induction ds generalizing acc with
  | nil => exact (Nat.mod_eq_of_lt acc.isLt).symm
  | cons d rest ih =>
    rw [List.foldl_cons, List.foldl_cons, ih, toNat_shift_or hw, hmod, Nat.mul_comm]

theorem identityOfBytes_toNat (bs : List Byte) :
    (identityOfBytes bs).toNat = bs.foldl (fun n b => 256 * n + b.toNat) 0 % 2 ^ 48 :=
  toNat_foldl_shift_or (w := 8) (by omega) bs 0

theorem identityOfDigits_toNat (ds : List Digit) :
    (identityOfDigits ds).toNat = ds.foldl (fun n d => 16 * n + d.toNat) 0 % 2 ^ 48 :=
  toNat_foldl_shift_or (w := 4) (by omega) ds 0

theorem identityBytes_toNat (i : Identity) :
    (identityBytes i).map BitVec.toNat = (List.range 6).map fun j => i.toNat / 256 ^ (5 - j) % 256 := by
  unfold identityBytes
  rw [List.map_map]
  refine List.map_congr_left fun j hj => ?_
  have hj : j < 6 := List.mem_range.1 hj
  have hpow : 2 ^ (40 - 8 * j) = 256 ^ (5 - j) := by
    rw [show (256 : Nat) = 2 ^ 8 from rfl, ← Nat.pow_mul]
    congr 1; omega
  simp only [Function.comp_apply, BitVec.extractLsb'_toNat, Nat.shiftRight_eq_div_pow, hpow]

/-- Six bytes give the identity they were read from (R59). -/
theorem identityOfBytes_identityBytes (i : Identity) : identityOfBytes (identityBytes i) = i := by
  apply BitVec.eq_of_toNat_eq
  have h := identityBytes_toNat i
  have hi : i.toNat < 2 ^ 48 := i.isLt
  have hfold : ∀ bs : List Byte, bs.foldl (fun n b => 256 * n + b.toNat) 0 =
      (bs.map BitVec.toNat).foldl (fun n b => 256 * n + b) 0 := fun bs => by rw [List.foldl_map]
  rw [identityOfBytes_toNat, hfold, h]
  simp only [List.range, List.range.loop, List.map_cons, List.map_nil, List.foldl_cons, List.foldl_nil]
  norm_num
  omega

theorem wordBytes_toNat (w : Word) : (wordBytes w).map BitVec.toNat = [w.toNat / 256, w.toNat % 256] := by
  have hw : w.toNat < 65536 := w.isLt
  simp only [wordBytes, List.map_cons, List.map_nil, BitVec.extractLsb'_toNat, Nat.shiftRight_eq_div_pow]
  norm_num
  omega

theorem nameByte_toNat (n : Name) : (nameByte n).toNat = n.val + 1 := by
  have := n.isLt
  simp only [nameByte, nameNum, BitVec.toNat_ofNat]
  omega

/-! ### The check (R40) -/

theorem checkOf_toNat (vals : List Byte) : (checkOf vals).toNat = 255 - (vals.map BitVec.toNat).sum % 256 := by
  simp only [checkOf, BitVec.toNat_ofNat]
  omega

/-- A frame's values with the check sum to 255 modulo 256. -/
theorem sum_withCheck (vals : List Byte) :
    ((vals ++ [checkOf vals]).map BitVec.toNat).sum % 256 = 255 := by
  rw [List.map_append, List.sum_append, List.map_singleton, List.sum_singleton, checkOf_toNat]
  omega

/-! ### Frames (R38, R60) -/

theorem Call.values_ne_nil (c : Call) : c.values ++ [checkOf c.values] ≠ [] := by simp

/-- The frame's values and markers. -/
theorem Call.frame_eq (c : Call) : ∃ v vs, c.values ++ [checkOf c.values] = v :: vs ∧
    c.frame = ⟨v, true⟩ :: vs.map fun x => ⟨x, false⟩ := by
  unfold Call.frame
  cases h : c.values ++ [checkOf c.values] with
  | nil => exact absurd h c.values_ne_nil
  | cons v vs => exact ⟨v, vs, rfl, rfl⟩

theorem Call.frame_values (c : Call) : c.frame.map TxChar.value = c.values ++ [checkOf c.values] := by
  obtain ⟨v, vs, h, hf⟩ := c.frame_eq
  rw [h, hf, List.map_cons, List.map_map]
  simp [Function.comp_def]

theorem Call.frame_length (c : Call) : c.frame.length = c.values.length + 1 := by
  rw [← List.length_map (f := TxChar.value), c.frame_values, List.length_append, List.length_singleton]

theorem Call.frame_marker (c : Call) {k : Nat} (h : k < c.frame.length) : (c.frame[k]).marker = decide (k = 0) := by
  obtain ⟨v, vs, -, hf⟩ := c.frame_eq
  simp only [hf]
  cases k with
  | zero => rfl
  | succ k => simp

theorem Call.frame_dropLast (c : Call) : c.frame.dropLast.map (fun x => x.value.toNat) = c.values.map BitVec.toNat := by
  have h : c.frame.dropLast.map TxChar.value = c.values := by
    rw [List.map_dropLast, c.frame_values, List.dropLast_concat]
  rw [← h, List.map_map]
  rfl

theorem identityBytes_length (i : Identity) : (identityBytes i).length = 6 := by simp [identityBytes]

theorem flatMap_wordBytes_length (ws : List Word) : (ws.flatMap wordBytes).length = 2 * ws.length := by
  induction ws with
  | nil => rfl
  | cons w rest ih => rw [List.flatMap_cons, List.length_append, ih, List.length_cons]; simp only [wordBytes, List.length_cons, List.length_nil]; omega

theorem flatMap_wordBytes_toNat {word : Word → List Nat} (hword : ∀ w : Word, word w = [w.toNat / 256, w.toNat % 256])
    (ws : List Word) : (ws.flatMap wordBytes).map BitVec.toNat = ws.flatMap word := by
  rw [List.map_flatMap]
  congr 1
  funext w
  rw [wordBytes_toNat, hword]

/-- Twelve digits, two to a byte (R61). -/
theorem digits_bytes {ds : List Digit} (h : ds.length = 12) :
    (identityBytes (identityOfDigits ds)).map BitVec.toNat = (List.range 6).map fun j =>
      16 * (ds.getD (2 * j) 0).toNat + (ds.getD (2 * j + 1) 0).toNat := by
  have hlt : ∀ d : Digit, d.toNat < 16 := fun d => d.isLt
  rw [identityBytes_toNat, identityOfDigits_toNat]
  match ds, h with
  | [d0, d1, d2, d3, d4, d5, d6, d7, d8, d9, d10, d11], _ =>
    have h0 := hlt d0; have h1 := hlt d1; have h2 := hlt d2; have h3 := hlt d3
    have h4 := hlt d4; have h5 := hlt d5; have h6 := hlt d6; have h7 := hlt d7
    have h8 := hlt d8; have h9 := hlt d9; have h10 := hlt d10; have h11 := hlt d11
    simp only [List.range, List.range.loop, List.map_cons, List.map_nil, List.foldl_cons, List.foldl_nil,
      List.getD_cons_succ, List.getD_cons_zero, List.cons.injEq, and_true]
    norm_num
    omega

/-- A seek's digits and the digits past them, which are 0 (R61). -/
theorem prefix_getD (p : Prefix) (k : Nat) : (p ++ List.replicate (12 - p.length) 0).getD k 0 = p.getD k 0 := by
  by_cases h : k < p.length
  · rw [List.getD_append _ _ _ _ h]
  · rw [List.getD_append_right _ _ _ _ (by omega), List.getD_eq_default p 0 (by omega)]
    simp

theorem seek_bytes {p : Prefix} (h : p.length ≤ 11) :
    (identityBytes (prefixIdentity p)).map BitVec.toNat = (List.range 6).map fun j =>
      16 * (p.getD (2 * j) 0).toNat + (p.getD (2 * j + 1) 0).toNat := by
  unfold prefixIdentity
  rw [digits_bytes (by simp; omega)]
  simp only [prefix_getD]

/-- Settles O24. -/
theorem callFrames : Obligations.CallFrames := by
  unfold Obligations.CallFrames
  intro c
  have hsum : (c.frame.map fun x => x.value.toNat).sum % 256 = 255 := by
    have : (c.frame.map fun x => x.value.toNat) = (c.frame.map TxChar.value).map BitVec.toNat := by
      rw [List.map_map]; rfl
    rw [this, c.frame_values]
    exact sum_withCheck c.values
  refine ⟨hsum, fun k h => c.frame_marker h, fun p h => ?_, fun i n h => ?_, fun n h => ?_, fun n a k h => ?_,
    fun n a ws h => ?_, fun n h => ?_, fun vals word hvals hword => ?_⟩
  · rw [c.frame_length, h]; simp [Call.values, identityBytes_length]
  · rw [c.frame_length, h]; simp [Call.values, identityBytes_length, Call.answerLength]
  · rw [c.frame_length, h]; simp [Call.values, Call.answerLength]
  · rw [c.frame_length, h]; simp [Call.values, Call.answerLength, wordBytes]
  · rw [c.frame_length, h]
    refine ⟨?_, rfl⟩
    simp only [Call.values, wordBytes, List.length_append, List.length_cons, List.length_nil, flatMap_wordBytes_length]
    omega
  · rw [c.frame_length, h]; simp [Call.values, Call.answerLength]
  · have hbyte : ∀ k, k ≤ 255 → (BitVec.ofNat 8 k).toNat = k := fun k hk => by
      rw [BitVec.toNat_ofNat]; omega
    rw [c.frame_dropLast] at hvals
    subst hvals
    refine ⟨fun p h hp => ?_, fun i n h => ?_, fun n h => ?_, fun n a k h hk => ?_, fun n a ws h hk => ?_, fun n h => ?_⟩
    · rw [h, Call.values, List.map_append, seek_bytes hp]
      simp only [List.map_cons, List.map_nil, hbyte _ (Nat.le_trans hp (by omega : 11 ≤ 255))]
      rfl
    · rw [h, Call.values, List.map_append, List.map_append, identityBytes_toNat]
      simp only [List.map_cons, List.map_nil, nameByte_toNat]
      rfl
    · simp [h, Call.values, nameByte_toNat]
    · rw [h, Call.values, List.map_append, List.map_append, wordBytes_toNat, hword]
      simp only [List.map_cons, List.map_nil, nameByte_toNat, hbyte k hk]
      rfl
    · rw [h, Call.values, List.map_append, List.map_append, List.map_append, wordBytes_toNat, hword,
        flatMap_wordBytes_toNat hword]
      simp only [List.map_cons, List.map_nil, nameByte_toNat, hbyte _ hk]
      rfl
    · simp [h, Call.values, nameByte_toNat]

end Sys2Proof.Machine
end

section
/-! PROOFS. What the receiver hears: answers and seek windows (sections 3.4, 3.5, 3.7 and 4.1). -/

namespace Sys2Proof.Machine

variable {s : State}

/-! ### Classification (R40, R41, R43) -/

/-- The check compares equal exactly where all values sum to 255 modulo 256. -/
theorem check_iff_sum {vals : List Byte} (h : vals ≠ []) :
    vals.getLast? = some (checkOf vals.dropLast) ↔ (vals.map BitVec.toNat).sum % 256 = 255 := by
  rw [List.getLast?_eq_some_getLast h, Option.some_inj]
  have hsum : (vals.map BitVec.toNat).sum = (vals.dropLast.map BitVec.toNat).sum + (vals.getLast h).toNat := by
    conv => lhs; rw [← List.dropLast_concat_getLast h]
    rw [List.map_append, List.sum_append, List.map_singleton, List.sum_singleton]
  have hlt : (vals.getLast h).toNat < 256 := (vals.getLast h).isLt
  rw [hsum, ← BitVec.toNat_inj, checkOf_toNat]
  omega

/-- Characters received that are clean (R41, R43). -/
theorem charsClean_iff {cs : List RxChar} (h : cs ≠ []) : charsClean cs = true ↔
    (∀ c ∈ cs, c.framed = true ∧ c.marker = false) ∧ (cs.map fun c => c.value.toNat).sum % 256 = 255 := by
  have hmap : (cs.map fun c => c.value.toNat) = (cs.map RxChar.value).map BitVec.toNat := by rw [List.map_map]; rfl
  rw [hmap, ← check_iff_sum (by simpa using h)]
  simp [charsClean]

/-- The characters of a device's answer: no marker, well framed. -/
def sentChars (vals : List Byte) : List RxChar := vals.map fun v => ⟨v, false, true⟩

theorem sentChars_values (vals : List Byte) : (sentChars vals).map RxChar.value = vals := by
  simp [sentChars, Function.comp_def]

/-- A device's values with their check are clean. -/
theorem charsClean_withCheck (vals : List Byte) : charsClean (sentChars (withCheck vals)) = true := by
  rw [charsClean_iff (by simp [sentChars, withCheck])]
  refine ⟨fun c hc => ?_, ?_⟩
  · obtain ⟨v, -, rfl⟩ := List.mem_map.1 hc
    exact ⟨rfl, rfl⟩
  · have hmap : ((sentChars (withCheck vals)).map fun c => c.value.toNat) =
        ((sentChars (withCheck vals)).map RxChar.value).map BitVec.toNat := by rw [List.map_map]; rfl
    rw [hmap, sentChars_values]
    exact sum_withCheck vals

/-! ### An ordinary answer (R41, R57, R58) -/

theorem receiveAnswer_length (remaining ready limit : Nat) (edges : List LineEdge) :
    (receiveAnswer remaining ready limit edges).length ≤ remaining := by
  induction edges generalizing remaining ready limit with
  | nil => exact Nat.zero_le _
  | cons e rest ih =>
    unfold receiveAnswer
    split
    · exact Nat.zero_le _
    · split
      · exact ih ..
      · split
        · exact Nat.zero_le _
        · split
          · have := ih (remaining - 1) (e.time + Config.stopAfter) (e.time + Config.stopAfter + Config.shortGap)
            rw [List.length_cons]; omega
          · exact ih ..

/-- Edges that keep to the contract are all received. -/
theorem receiveAnswer_answerEdges {sent : List (Byte × Nat)} (hgap : ∀ x ∈ sent, x.2 ≤ 2150) {t ready limit : Nat}
    (hr : ready ≤ t) (hl : t + 50 ≤ limit) :
    receiveAnswer sent.length ready limit (answerEdges t sent) = sentChars (sent.map Prod.fst) := by
  induction sent generalizing t ready limit with
  | nil => rfl
  | cons x rest ih =>
    obtain ⟨v, gap⟩ := x
    have hg : gap ≤ 2150 := hgap (v, gap) (by simp)
    unfold answerEdges receiveAnswer
    have hv : Config.validateAfter = 50 := rfl
    have hg2 : Config.shortGap = 2200 := rfl
    rw [if_neg (by simp), if_neg (by simp only [startEdge]; omega), if_neg (by simp only [startEdge, hv]; omega),
      if_pos (by rfl), List.length_cons, Nat.add_sub_cancel]
    rw [ih (fun y hy => hgap y (by simp [hy])) (by simp only [startEdge]; omega) (by simp only [startEdge, hg2]; omega)]
    rfl

/-- The values of a device's answer, check included: as many as the call expects. -/
theorem Device.answer_length {d : Device} {words : List Word} {c : Call} {vals : List Byte}
    (h : d.answer words c = some vals) (hseek : ∀ p, c ≠ .seek p) (hread : ∀ n a k, c = .read n a k → words.length = k) :
    vals.length = c.answerLength ∧ ∃ before, vals = withCheck before := by
  have hlen : ∀ {l : List Byte}, vals = withCheck l → vals.length = l.length + 1 := fun h => by simp [h, withCheck]
  cases c with
  | seek p => exact absurd rfl (hseek p)
  | release n => cases h
  | claim i n =>
    simp only [Device.answer, Option.ite_none_right_eq_some, Option.some.injEq] at h
    refine ⟨?_, _, h.2.symm⟩
    rw [hlen h.2.symm]; simp [identityBytes_length, Call.answerLength]
  | roll n =>
    simp only [Device.answer, Option.ite_none_right_eq_some, Option.some.injEq] at h
    refine ⟨?_, _, h.2.symm⟩
    rw [hlen h.2.symm]; simp [identityBytes_length, Call.answerLength]
  | read n a k =>
    simp only [Device.answer, Option.ite_none_right_eq_some, Option.some.injEq] at h
    refine ⟨?_, _, h.2.symm⟩
    rw [hlen h.2.symm, flatMap_wordBytes_length, hread n a k rfl]; rfl
  | write n a ws =>
    simp only [Device.answer, Option.ite_none_right_eq_some, Option.some.injEq] at h
    refine ⟨?_, _, h.2.symm⟩
    rw [hlen h.2.symm]; rfl

theorem classifyAnswer_sent {vals before : List Byte} (h : vals = withCheck before) :
    classifyAnswer vals.length (sentChars vals) = .clean vals.dropLast := by
  subst h
  have hne : sentChars (withCheck before) ≠ [] := by simp [sentChars, withCheck]
  unfold classifyAnswer
  rw [if_neg hne, if_pos ⟨by simp [sentChars], charsClean_withCheck before⟩, valuesBeforeCheck, sentChars_values,
    List.dropLast_eq_take]

/-- An answer in time is heard clean. -/
theorem hearAnswer_of_contract {d : Device} {words : List Word} {c : Call} {vals : List Byte} {start : Nat}
    {gaps : List Nat} (h : d.answer words c = some vals) (hseek : ∀ p, c ≠ .seek p)
    (hread : ∀ n a k, c = .read n a k → words.length = k) (hs : start ≤ 2300) (hlen : gaps.length = vals.length)
    (hg : ∀ g ∈ gaps, g ≤ 2150) : hearAnswer c (answerEdges start (vals.zip gaps)) = .clean vals.dropLast := by
  obtain ⟨hcount, before, hv⟩ := Device.answer_length h hseek hread
  have hzip : (vals.zip gaps).length = vals.length := by rw [List.length_zip, hlen, Nat.min_self]
  have hchars : answerChars c (answerEdges start (vals.zip gaps)) = sentChars vals := by
    unfold answerChars
    have hlimit : Config.answerLimit = 2400 := rfl
    rw [← hcount, ← hzip, receiveAnswer_answerEdges (fun x hx => hg x.2 (List.of_mem_zip hx).2) (Nat.zero_le _)
      (by omega), List.map_fst_zip (by omega)]
  unfold hearAnswer
  rw [hchars, ← hcount]
  exact classifyAnswer_sent hv

/-- What is heard of any answer (R41). -/
theorem hearAnswer_cases (c : Call) (edges : List LineEdge) {cs : List RxChar} {vals : List Byte} {good : Prop}
    (hcs : cs = answerChars c edges) (hvals : vals = (cs.take (c.answerLength - 1)).map RxChar.value)
    (hgood : good ↔ cs.length = c.answerLength ∧ (∀ x ∈ cs, x.framed = true ∧ x.marker = false) ∧
      (cs.map fun x => x.value.toNat).sum % 256 = 255) :
    cs.length ≤ c.answerLength ∧ (cs = [] → hearAnswer c edges = .silent) ∧
    (cs ≠ [] → good → hearAnswer c edges = .clean vals) ∧ (cs ≠ [] → ¬ good → hearAnswer c edges = .garbled vals) := by
  have hv : valuesBeforeCheck c.answerLength cs = vals := by rw [hvals, valuesBeforeCheck, List.map_take]
  have hhear : hearAnswer c edges = classifyAnswer c.answerLength cs := by rw [hcs]; rfl
  rw [hhear]
  unfold classifyAnswer
  rw [hv]
  refine ⟨by rw [hcs]; exact receiveAnswer_length .., fun h => if_pos h, fun h hg => ?_, fun h hg => ?_⟩
  · rw [if_neg h, if_pos]; rwa [charsClean_iff h, ← hgood]
  · rw [if_neg h, if_neg]; rwa [charsClean_iff h, ← hgood]

/-! ### The line-held count through an answer (R35, R47) -/

/-- Bit times of a released line that cannot bring the count to 64. -/
theorem State.heldFrom_few {l : LineUnit} (hr : l.heldRunning = true) {bits : List LineBit}
    (hb : ∀ b ∈ bits, b ≠ .driven) (hk : l.heldCount + bits.length < 64) (rest : List LineBit) :
    ∃ k, k ≤ l.heldCount + bits.length ∧ s.heldFrom l (bits ++ rest) = s.heldFrom { l with heldCount := k } rest := by
  induction bits generalizing l with
  | nil => exact ⟨l.heldCount, Nat.le_refl _, rfl⟩
  | cons b bs ih =>
    rw [List.length_cons] at hk
    have hstep : heldAfterBit l.heldCount b ≤ l.heldCount + 1 := by
      cases b with
      | driven => exact absurd rfl (hb _ (by simp))
      | low => exact Nat.min_le_right _ _
      | high => exact Nat.zero_le _
    obtain ⟨k, hk', he⟩ := ih (l := { l with heldCount := heldAfterBit l.heldCount b }) hr
      (fun c hc => hb c (by simp [hc])) (show heldAfterBit l.heldCount b + bs.length < 64 by omega)
    have hk' : k ≤ heldAfterBit l.heldCount b + bs.length := hk'
    refine ⟨k, by rw [List.length_cons]; omega, ?_⟩
    rw [List.cons_append, State.heldFrom_cons hr (by omega), he]

/-- Idle bit times leave the count at 0. -/
theorem State.heldFrom_idle {l : LineUnit} (hr : l.heldRunning = true) (h0 : l.heldCount = 0) (n : Nat)
    (rest : List LineBit) : s.heldFrom l (List.replicate n .high ++ rest) = s.heldFrom l rest := by
  induction n with
  | zero => rfl
  | succ n ih =>
    rw [List.replicate_succ, List.cons_append, State.heldFrom_cons (b := .high) hr (by simp [heldAfterBit]), ← ih]
    congr 1
    simp only [heldAfterBit, ← h0]

/-- The bit times of one character, with the idle bit times after it. -/
def charBits (v : Byte) (idle : Nat) : List LineBit :=
  (TxChar.levels ⟨v, false⟩).map (fun high => if high then LineBit.high else .low) ++ List.replicate idle .high

/-- A character has ten bits before its stop bit (R35). -/
theorem charBits_eq (v : Byte) (idle : Nat) : ∃ bits, bits.length = 10 ∧ (∀ b ∈ bits, b ≠ .driven) ∧
    charBits v idle = bits ++ .high :: List.replicate idle .high := by
  refine ⟨((false :: (List.range 8).map fun k => v.getLsbD k) ++ [false]).map
    (fun high => if high then LineBit.high else .low), by simp, fun b hb => ?_, ?_⟩
  · obtain ⟨high, -, rfl⟩ := List.mem_map.1 hb
    split <;> simp
  · simp [charBits, TxChar.levels]

theorem State.heldFrom_char {l : LineUnit} (hr : l.heldRunning = true) (hk : l.heldCount ≤ 53) (v : Byte) (idle : Nat)
    (rest : List LineBit) : s.heldFrom l (charBits v idle ++ rest) = s.heldFrom { l with heldCount := 0 } rest := by
  obtain ⟨bits, hlen, hb, he⟩ := charBits_eq v idle
  rw [he, List.append_assoc]
  obtain ⟨k, hk', hfew⟩ := State.heldFrom_few (s := s) hr hb (by omega) (.high :: List.replicate idle .high ++ rest)
  rw [hfew, List.cons_append,
    State.heldFrom_cons (l := { l with heldCount := k }) (b := .high) hr (by simp [heldAfterBit])]
  exact State.heldFrom_idle (l := { l with heldCount := 0 }) hr rfl idle rest

theorem State.heldFrom_answer {l : LineUnit} (hr : l.heldRunning = true) (h0 : l.heldCount ≤ 53)
    {sent : List (Byte × Nat)} (hne : sent ≠ []) :
    s.heldFrom l (sent.flatMap fun x => charBits x.1 x.2) = s.heldFrom { l with heldCount := 0 } [] := by
  induction sent generalizing l with
  | nil => exact absurd rfl hne
  | cons x rest ih =>
    rw [List.flatMap_cons, State.heldFrom_char hr h0]
    by_cases hrest : rest = []
    · rw [hrest]; rfl
    · exact ih (l := { l with heldCount := 0 }) hr (Nat.zero_le _) hrest

/-- Settles O25. -/
theorem compliantAnswerHeardClean : Obligations.CompliantAnswerHeardClean := by
  unfold Obligations.CompliantAnswerHeardClean
  refine ⟨fun d words c vals start gaps edges h hseek hread hs hlen hg he => ?_,
    fun s b c sent bits hf hr h0 hne hbits => ?_, fun c edges cs vals good h1 h2 h3 => hearAnswer_cases c edges h1 h2 h3⟩
  · rw [he]
    exact hearAnswer_of_contract h hseek hread hs hlen hg
  · have hbits : bits = sent.flatMap fun x => charBits x.1 x.2 := hbits
    have hdriven : ∀ b ∈ bits, b ≠ .driven := fun b hb => by
      rw [hbits] at hb
      obtain ⟨x, -, hx⟩ := List.mem_flatMap.1 hb
      obtain ⟨front, -, hfront, he⟩ := charBits_eq x.1 x.2
      rw [he] at hx
      obtain hx | hx := List.mem_append.1 hx
      · exact hfront b hx
      · obtain rfl | hx := List.mem_cons.1 hx
        · simp
        · rw [List.eq_of_mem_replicate hx]; simp
    rw [exec_lineHeld, s.lineBits_of_released bits (by simp [State.transmitter, hf]) hdriven, hbits,
      State.heldFrom_answer hr h0 hne]
    unfold State.heldFrom LineUnit.countBits
    simp

/-! ### Seek windows (R42, R43) -/

/-- A lone device's characters, back to back from early in the window, are all received. -/
theorem receiveWindow_answerEdges {vals : List Byte} {t ready : Nat} (hr : ready ≤ t)
    (ht : t + 1100 * vals.length < 9650) :
    receiveWindow ready (answerEdges t (vals.map fun v => (v, 50))) = (sentChars vals, false) := by
  induction vals generalizing t ready with
  | nil => rfl
  | cons v rest ih =>
    rw [List.length_cons] at ht
    have h1 : Config.validateAfter = 50 := rfl
    have h2 : Config.stopAfter = 1050 := rfl
    have h3 : Config.windowLength = 9600 := rfl
    rw [List.map_cons, answerEdges, receiveWindow]
    rw [if_neg (by simp only [startEdge]; omega), if_neg (by simp only [startEdge, h1, h3]; omega), if_pos (by rfl),
      if_neg (by simp only [startEdge, h2, h3]; omega),
      ih (by simp only [startEdge]; omega) (by rw [h2]; omega)]
    rfl

theorem Device.seek_answer {d : Device} {p : Prefix} {vals : List Byte} (h : d.answer [] (.seek p) = some vals) :
    hasPrefix d.ident p = true ∧ vals = withCheck (identityBytes d.ident ++ [d.cls]) := by
  simp only [Device.answer, Option.ite_none_right_eq_some, Option.some.injEq] at h
  exact ⟨h.1.2, h.2.symm⟩

theorem hearWindow_of_contract {d : Device} {p : Prefix} {vals : List Byte} {start : Nat}
    (h : d.answer [] (.seek p) = some vals) (hs : start ≤ 800) :
    hearWindow (answerEdges start (vals.map fun v => (v, 50))) = .clean d.ident d.cls := by
  obtain ⟨-, hv⟩ := Device.seek_answer h
  have hlen : vals.length = 8 := by rw [hv]; simp [withCheck, identityBytes_length]
  unfold hearWindow
  rw [receiveWindow_answerEdges (Nat.zero_le _) (by omega)]
  dsimp only
  unfold classifyWindow
  have htake : vals.take 6 = identityBytes d.ident := by
    rw [hv, withCheck, List.append_assoc, ← identityBytes_length d.ident, List.take_left]
  have hcls : vals.getD 6 0 = d.cls := by
    rw [hv, withCheck, List.append_assoc, List.getD_append_right _ _ _ _ (by rw [identityBytes_length])]
    rw [identityBytes_length]
    rfl
  rw [if_neg (by rintro ⟨h, -⟩; simp [sentChars] at h; simp [h] at hlen),
    if_pos ⟨by simp [sentChars, hlen], rfl, by rw [hv]; exact charsClean_withCheck _⟩, sentChars_values]
  dsimp only
  rw [htake, hcls, identityOfBytes_identityBytes]

theorem judgeWindow_of_contract {d : Device} {p : Prefix} (h : hasPrefix d.ident p = true) (h0 : d.ident ≠ 0)
    (h1 : d.ident ≠ BitVec.allOnes 48) :
    judgeWindow p (d.window p) (.clean d.ident d.cls) = .clean d.ident d.cls := by
  unfold judgeWindow
  refine if_pos ⟨h, ?_, ?_⟩
  · simp [Device.window]
  · have h1' : d.ident ≠ 0xFFFFFFFFFFFF#48 := h1
    simp only [Config.excludedIdentity, Bool.or_eq_false_iff, decide_eq_false_iff_not]
    exact ⟨h0, h1'⟩

/-- What is heard of any window (R43). -/
theorem hearWindow_cases {edges : List LineEdge} {cs : List RxChar} {unfinished : Bool} {good : Prop}
    (h : receiveWindow 0 edges = (cs, unfinished))
    (hgood : good ↔ cs.length = 8 ∧ unfinished = false ∧ (∀ x ∈ cs, x.framed = true ∧ x.marker = false) ∧
      (cs.map fun x => x.value.toNat).sum % 256 = 255) :
    (cs = [] → unfinished = false → hearWindow edges = .silent) ∧
    (∀ (i : Identity) (c : Byte), good →
      i.toNat = (cs.take 6).foldl (fun n x => 256 * n + x.value.toNat) 0 →
      cs[6]?.map RxChar.value = some c → hearWindow edges = .clean i c) ∧
    (cs ≠ [] ∨ unfinished = true → ¬ good → hearWindow edges = .garbled) := by
  have hhear : hearWindow edges = classifyWindow cs unfinished := by unfold hearWindow; rw [h]
  rw [hhear]
  unfold classifyWindow
  refine ⟨fun h1 h2 => if_pos ⟨h1, h2⟩, fun i c hg hi hc => ?_, fun hne hg => ?_⟩
  · obtain ⟨hlen, hfin, hclean⟩ := hgood.1 hg
    have hne : cs ≠ [] := fun h0 => by simp [h0] at hlen
    rw [if_neg (fun h => hne h.1), if_pos ⟨hlen, hfin, (charsClean_iff hne).2 hclean⟩]
    have hid : identityOfBytes ((cs.map RxChar.value).take 6) = i := by
      apply BitVec.eq_of_toNat_eq
      have hfold : ((cs.map RxChar.value).take 6).foldl (fun n b => 256 * n + b.toNat) 0 =
          (cs.take 6).foldl (fun n x => 256 * n + x.value.toNat) 0 := by
        rw [← List.map_take, List.foldl_map]
      rw [identityOfBytes_toNat, hfold, ← hi]
      exact Nat.mod_eq_of_lt i.isLt
    have hcls : (cs.map RxChar.value).getD 6 0 = c := by
      rw [List.getD_eq_getElem?_getD, List.getElem?_map, hc]; rfl
    dsimp only
    rw [hid, hcls]
  · rw [if_neg (by rintro ⟨h1, h2⟩; rcases hne with h | h <;> simp_all), if_neg]
    rintro ⟨hlen, hfin, hclean⟩
    have hne : cs ≠ [] := fun h0 => by simp [h0] at hlen
    exact hg (hgood.2 ⟨hlen, hfin, (charsClean_iff hne).1 hclean⟩)

/-- Only false starts, or edges too late to validate (R42). -/
theorem receiveWindow_false_starts {edges : List LineEdge} (h : ∀ e ∈ edges, e.low = false ∨ 9550 ≤ e.time)
    (ready : Nat) : receiveWindow ready edges = ([], false) := by
  induction edges generalizing ready with
  | nil => rfl
  | cons e rest ih =>
    have hrest := ih fun d hd => h d (by simp [hd])
    have h1 : Config.validateAfter = 50 := rfl
    have h3 : Config.windowLength = 9600 := rfl
    unfold receiveWindow
    split
    · exact hrest _
    · split
      · rfl
      · rename_i hlate
        obtain hl | hl := h e (by simp)
        · rw [if_neg (by simp [hl])]; exact hrest _
        · omega

/-- Settles O26. -/
theorem compliantSeekAnswerHeardClean : Obligations.CompliantSeekAnswerHeardClean := by
  unfold Obligations.CompliantSeekAnswerHeardClean
  refine ⟨fun d p vals start h _ h0 h1 hs => ?_, fun edges cs unfinished good h hg => hearWindow_cases h hg,
    fun edges h => ?_, fun e rest hl ht => ?_⟩
  · have hhear := hearWindow_of_contract h hs
    rw [hhear]
    exact ⟨rfl, judgeWindow_of_contract (Device.seek_answer h).1 h0 h1⟩
  · unfold hearWindow
    rw [receiveWindow_false_starts h]
    rfl
  · have h1 : Config.validateAfter = 50 := rfl
    have h2 : Config.stopAfter = 1050 := rfl
    have h3 : Config.windowLength = 9600 := rfl
    have hrec : receiveWindow 0 (e :: rest) = if Config.windowLength ≤ e.time + Config.stopAfter then ([], true)
        else (heardChar e :: (receiveWindow (e.time + Config.stopAfter) rest).1,
          (receiveWindow (e.time + Config.stopAfter) rest).2) := by
      conv => lhs; unfold receiveWindow
      rw [if_neg (Nat.not_lt_zero _), if_neg (by omega), if_pos hl]
    have hhear : hearWindow (e :: rest) =
        classifyWindow (receiveWindow 0 (e :: rest)).1 (receiveWindow 0 (e :: rest)).2 := rfl
    rw [hhear, hrec]
    refine ⟨?_, fun hopen => ?_⟩
    · split
      · simp [classifyWindow]
      · simp only [classifyWindow, List.cons_ne_nil, false_and, if_false]
        split <;> simp
    · rw [if_pos (by omega)]
      simp [classifyWindow]

end Sys2Proof.Machine
end

section
/-! PROOFS. What the claimants do with an answer (chapters 4, 6, 7 and 9). -/

namespace Sys2Proof.Machine

variable {s : State}

theorem exec_answerEnd_listening {b : Claimant} {c : Call} (h : s.line.flight = .listening b c)
    (edges : List LineEdge) : exec (.answerEnd edges) s = .next (s.claimantAnswer b c (hearAnswer c edges)) := by
  have he : exec (.answerEnd edges) s = .next (match s.line.flight with
    | .listening b c => s.claimantAnswer b c (hearAnswer c edges)
    | _ => s) := rfl
  rw [he, h]

/-! ### Claims and verifying rolls (R63, R64) -/

theorem claimHeard_accepted_iff {i : Identity} {n : Name} {a : Answer} : claimHeard i n a = .accepted ↔
    ∃ vals, a = .clean vals ∧ identityOfBytes (vals.take 6) = i ∧ vals.getD 7 0 = nameByte n := by
  cases a with
  | silent => simp [claimHeard]
  | garbled vals => simp [claimHeard]
  | clean vals => simp [claimHeard]

theorem claimHeard_silent_iff {i : Identity} {n : Name} {a : Answer} : claimHeard i n a = .silent ↔ a = .silent := by
  cases a with
  | silent => simp [claimHeard]
  | garbled vals => simp [claimHeard]
  | clean vals => simp only [claimHeard, reduceCtorEq, iff_false]; split <;> simp

theorem verifyResult_success {i : Identity} {vals : List Byte} (h : identityOfBytes (vals.take 6) = i) :
    verifyResult i (.clean vals) = (.success, some (vals.getD 7 0)) := if_pos h

theorem verifyResult_dispute {i : Identity} {vals : List Byte} (h : identityOfBytes (vals.take 6) ≠ i) :
    verifyResult i (.clean vals) = (.dispute, none) := if_neg h

theorem verifyResult_failure {i : Identity} {a : Answer} (h : a = .silent ∨ ∃ vals, a = .garbled vals) :
    verifyResult i a = (.failure, none) := by
  obtain rfl | ⟨vals, rfl⟩ := h <;> rfl

/-! ### The walker's claim (R64, R107) -/

section
variable {x : ClaimContext} (hx : s.walker.claim = some x)
include hx

theorem State.walkerAnswer_claim_accepted {i : Identity} {n : Name} {a : Answer}
    (h : claimHeard i n a = .accepted) :
    s.walkerAnswer (.claim i n) a = (s.freeLine.finishClaim x .success none).decideGrant := by
  simp only [State.walkerAnswer, hx, h, if_true]

theorem State.walkerAnswer_claim_other {i : Identity} {n : Name} {a : Answer}
    (h : claimHeard i n a ≠ .accepted) : s.walkerAnswer (.claim i n) a = s.askAgain .walker (.roll n) := by
  simp only [State.walkerAnswer, hx, h, if_false]

theorem State.walkerAnswer_roll {n : Name} {a : Answer} {r : ClaimResult} {st : Option Byte}
    (h : verifyResult x.cand.ident a = (r, st)) :
    s.walkerAnswer (.roll n) a = (s.freeLine.finishClaim x r st).decideGrant := by
  simp only [State.walkerAnswer, hx, h]

end

theorem State.takeOutcome_walker (n : Name) (i : Identity) (r : ClaimResult) (st : Option Byte) (s : State) :
    (s.takeOutcome n i r st).walker = s.walker := by
  unfold State.takeOutcome
  split
  · rfl
  · split
    · split
      · unfold State.settleOffer; dsimp only
        split
        · rfl
        · split <;> rfl
        · split <;> rfl
      · rfl
    · rfl

/-- A claim group that ends in no dispute: the report, the counts, the next candidate. -/
theorem State.finishClaim_of_ne_dispute {x : ClaimContext} {r : ClaimResult} (hr : r ≠ .dispute) (st : Option Byte)
    {rest : List Candidate} (hc : s.walker.candidates = x.cand :: rest) {w : Walker}
    (hw : s.walker.countClaim x r = { s.walker with counts := w.counts, stack := w.stack }) :
    s.finishClaim x r st = State.endIfDone { s.takeOutcome x.name x.cand.ident r st with
      walker := { s.walker with candidates := rest, claim := none, counts := w.counts, stack := w.stack } } := by
  unfold State.finishClaim
  simp only [hr, false_and, if_false, State.takeOutcome_walker, hw, hc, List.tail_cons]

theorem Walker.countClaim_success {x : ClaimContext} {w : Walker} {good : PassCounts}
    (h1 : x.kind = .new → good = { w.counts with found := min 255 (w.counts.found + 1) })
    (h2 : x.kind = .ret → good = { w.counts with returned := min 255 (w.counts.returned + 1) })
    (h3 : x.kind = .reclaim → good = { w.counts with reclaimed := min 255 (w.counts.reclaimed + 1) })
    (h4 : x.kind ≠ .move) : w.countClaim x .success = { w with counts := good, stack := w.stack } := by
  unfold Walker.countClaim
  cases hk : x.kind with
  | new => rw [h1 hk]; rfl
  | ret => rw [h2 hk]; rfl
  | reclaim => rw [h3 hk]; rfl
  | move => exact absurd hk h4

theorem Walker.countClaim_pushed {x : ClaimContext} {w : Walker} (hl : x.len ≤ 10) (hs : w.stack.length < 24) :
    w.countClaim x .failure = { w with
      counts := w.counts, stack := ((identityDigits x.cand.ident).take x.len ++ [x.window]) :: w.stack } := by
  have hl : x.len < 11 := by omega
  exact (if_pos hl).trans (if_pos hs)

theorem Walker.countClaim_dropped {x : ClaimContext} {w : Walker} (hl : x.len ≤ 10) (hs : w.stack.length = 24) :
    w.countClaim x .failure = { w with
      counts := { w.counts with dropped := min 255 (w.counts.dropped + 1) }, stack := w.stack } := by
  have hl : x.len < 11 := by omega
  have hs : ¬ w.stack.length < 24 := by omega
  exact (if_pos hl).trans (if_neg hs)

theorem Walker.countClaim_phantom {x : ClaimContext} {w : Walker} (hl : x.len = 11) :
    w.countClaim x .failure = { w with
      counts := { w.counts with
        phantom := min 255 (w.counts.phantom + 1), unresolved := min 255 (w.counts.unresolved + 1) }
      stack := w.stack } := by
  have hl : ¬ x.len < 11 := by omega
  exact if_neg hl

/-- Settles O27. -/
theorem walkerClaimGroup : Obligations.WalkerClaimGroup := by
  unfold Obligations.WalkerClaimGroup
  intro s x rest edges n c hx hcand hf ended hended done hdone good h1 h2 h3 h4
  have hend : ∀ {r : ClaimResult} (st : Option Byte) {w : Walker}, r ≠ .dispute →
      s.walker.countClaim x r = { s.walker with counts := w.counts, stack := w.stack } →
      (s.freeLine.finishClaim x r st).decideGrant = done (ended r st) w.counts w.stack := fun {r} st {w} hr hw => by
    have hwalker : (ended r st).walker = s.walker := by rw [hended, State.takeOutcome_walker]
    rw [State.finishClaim_of_ne_dispute (s := s.freeLine) hr st hcand hw, hdone, hwalker, hended]
    rfl
  have hgood := Walker.countClaim_success h1 h2 h3 h4
  refine ⟨fun hc => ⟨fun hv => ?_, fun hv => ?_⟩, fun hc => ⟨fun vals hv hi => ?_, fun hv => ?_⟩⟩
  · subst hc
    rw [exec_answerEnd_listening hf]
    refine congrArg Host.Outcome.next ((State.walkerAnswer_claim_accepted hx (claimHeard_accepted_iff.2 hv)).trans ?_)
    exact hend none (by simp) (w := { s.walker with counts := good }) hgood
  · subst hc
    rw [exec_answerEnd_listening hf]
    refine congrArg Host.Outcome.next (State.walkerAnswer_claim_other hx fun h => ?_)
    obtain ⟨vals, hv', hi, hn⟩ := claimHeard_accepted_iff.1 h
    rcases hv vals hv' with h | h
    · exact h hi
    · exact h hn
  · subst hc
    rw [exec_answerEnd_listening hf, hv]
    refine congrArg Host.Outcome.next ((State.walkerAnswer_roll hx (n := n) (verifyResult_success hi)).trans ?_)
    exact hend _ (by simp) (w := { s.walker with counts := good }) hgood
  · subst hc
    rw [exec_answerEnd_listening hf]
    have hfail : Host.Outcome.next (s.claimantAnswer .walker (.roll n) (hearAnswer (.roll n) edges)) =
        (.next (s.freeLine.finishClaim x .failure none).decideGrant : Host.Outcome State Fault Refusal) :=
      congrArg Host.Outcome.next (State.walkerAnswer_roll hx (n := n) (verifyResult_failure hv))
    refine ⟨fun hl hs => hfail.trans ?_, fun hl hs => hfail.trans ?_, fun hl => hfail.trans ?_⟩
    · rw [hend none (by simp) (w := { s.walker with
        stack := ((identityDigits x.cand.ident).take x.len ++ [x.window]) :: s.walker.stack })
        (Walker.countClaim_pushed hl hs)]
    · rw [hend none (by simp) (w := { s.walker with
        counts := { s.walker.counts with dropped := min 255 (s.walker.counts.dropped + 1) } })
        (Walker.countClaim_dropped hl hs)]
    · rw [hend none (by simp) (w := { s.walker with
        counts := { s.walker.counts with
          phantom := min 255 (s.walker.counts.phantom + 1)
          unresolved := min 255 (s.walker.counts.unresolved + 1) } }) (Walker.countClaim_phantom hl)]

/-! ### A claim that ends in dispute (R87, R109) -/

/-- The offered entry stands as its offer left it. -/
theorem Offer.stands_of {o : Offer} {e : Entry} (h1 : o.kind ≠ .reclaim → e.state = .offered)
    (h2 : o.kind = .reclaim → e.state = .bound ∨ e.state = .held) : o.stands e = true := by
  unfold Offer.stands
  split
  · rename_i h; exact decide_eq_true (h2 h)
  · rename_i h; exact decide_eq_true (h1 h)

theorem State.outcomeActs_of {o : Offer} (ho : s.dir.offer = some o) (h : o.stands (s.entry o.name) = true) :
    s.outcomeActs o.name o.ident = true := by
  simp [State.outcomeActs, ho, h]

theorem State.takeOutcome_of {o : Offer} (ho : s.dir.offer = some o) (h : o.stands (s.entry o.name) = true)
    (r : ClaimResult) (st : Option Byte) : s.takeOutcome o.name o.ident r st = (s.settleOffer o r st).clearOffer := by
  unfold State.takeOutcome
  rw [ho]
  simp only [and_self, if_true, h]

/-- A disputed entry as a record, but for the notice given (R87). -/
theorem State.disputeEntry_eq (n : Name) (s : State) : { s.disputeEntry n with given := s.given } = { s with
    line := { s.line with releases := insertName n s.line.releases }
    dir := { s.dir with entries := s.dir.entries.set n.val { s.entry n with
      gen := (s.entry n).gen + 2, state := .disputed, conflict := true, owed := true, strikes := 0, keep := 0 } n.isLt }
    port := { s.port with alert := s.port.alert ||| 2#7 } } := by
  unfold State.disputeEntry
  rw [State.stableEntry_eq]
  rfl

/-- Settles O28. -/
theorem walkerClaimDispute : Obligations.WalkerClaimDispute := by
  unfold Obligations.WalkerClaimDispute
  intro s x c rest edges n vals k prior hx hcand hw ho hk hkr hf hv hi
  have hstands : Offer.stands ⟨x.name, x.cand.ident, k, prior⟩ (s.entry x.name) = true := Offer.stands_of hk hkr
  have hacts : s.freeLine.outcomeActs x.name x.cand.ident = true := State.outcomeActs_of (s := s.freeLine) ho hstands
  have hout : s.freeLine.takeOutcome x.name x.cand.ident .dispute none = (s.freeLine.disputeEntry x.name).clearOffer :=
    State.takeOutcome_of (s := s.freeLine) ho hstands .dispute none
  have hdisp := s.freeLine.disputeEntry_eq x.name
  rw [exec_answerEnd_listening hf, hv]
  refine congrArg Host.Outcome.next ((State.walkerAnswer_roll hx (n := n) (verifyResult_dispute hi)).trans ?_)
  have hgiven : { s.freeLine.takeOutcome x.name x.cand.ident .dispute none with given := s.freeLine.given } =
      State.clearOffer { s.freeLine.disputeEntry x.name with given := s.freeLine.given } := by rw [hout]; rfl
  unfold State.finishClaim
  simp only [hacts, and_self, if_true, hgiven, hdisp]
  have hwant : ∀ u : State, u.walker = s.walker →
      u.wantPass = { u with walker := { s.walker with owed := true } } := fun u hu => by
    unfold State.wantPass
    rw [hu]
    rcases hw with h | h | h <;> simp only [h]
  rw [hwant _ (by rfl)]
  simp only [Walker.countClaim, hcand, List.tail_cons]
  rfl

/-! ### The roll caller's call (R69, R125 to R127) -/

theorem State.rollAnswer_repeated {h : RollCall} (hh : s.roll.hand = some h) {c : Call} {a : Answer}
    (ha : a = .silent ∨ ∃ vals, a = .garbled vals) (hr : h.attempts ≤ s.callRetries) :
    s.rollAnswer c a = State.askAgain .rollCaller c { s with
      roll := { s.roll with hand := some { h with attempts := h.attempts + 1 } } } := by
  unfold State.rollAnswer
  rw [hh]
  refine if_neg ?_
  rintro (h' | h')
  · obtain rfl | ⟨vals, rfl⟩ := ha <;> cases h'
  · omega

theorem State.rollAnswer_ends {h : RollCall} (hh : s.roll.hand = some h) {c : Call} {a : Answer}
    (ha : a.isClean = true ∨ s.callRetries < h.attempts) :
    s.rollAnswer c a = (s.freeLine.finishRoll h a).decideGrant := by
  unfold State.rollAnswer
  rw [hh]
  exact if_pos ha

theorem rollReportOf_missed {h : RollCall} {e : Entry} {limit : Nat} {round : Word} {a : Answer} {miss : RollReport}
    (ha : a = .silent ∨ ∃ vals, a = .garbled vals)
    (h1 : h.state ≠ .stale → e.strikes + 1 < limit → miss = .strike (e.strikes + 1))
    (h2 : h.state ≠ .stale → limit ≤ e.strikes + 1 → miss = .struckOut)
    (h3 : h.state = .stale → 2 ≤ e.keep → miss = .retentionStep (e.keep - 1))
    (h4 : h.state = .stale → e.keep ≤ 1 → miss = .retentionExpired) : rollReportOf h e limit round a = miss := by
  have hm : rollReportOf h e limit round a = if h.state = .stale then
      if 1 < e.keep then .retentionStep (e.keep - 1) else .retentionExpired
      else if e.strikes + 1 < limit then .strike (e.strikes + 1) else .struckOut := by
    obtain rfl | ⟨vals, rfl⟩ := ha <;> rfl
  rw [hm]
  split
  · rename_i hs
    split
    · rename_i hk; exact (h3 hs hk).symm
    · rename_i hk; exact (h4 hs (by omega)).symm
  · rename_i hs
    split
    · rename_i hk; exact (h1 hs hk).symm
    · rename_i hk; exact (h2 hs (by omega)).symm

/-- Settles O29. -/
theorem rollCallOutcome : Obligations.RollCallOutcome := by
  unfold Obligations.RollCallOutcome
  intro s h n edges a left hf hh ha hleft told out htold hout1 hout2 miss h1 h2 h3 h4
  have hfinish : ∀ rep, rollReportOf h (s.entry h.name) s.roll.strikeLimit s.roll.round a = rep →
      s.freeLine.finishRoll h a = out rep := fun rep hrep => by
    have htold' : State.takeRollReport h.name rep { s.freeLine with
        roll := { s.roll with due := s.roll.due.filter fun m => m ≠ h.name, hand := none } } = told rep := by
      rw [htold, hleft]; rfl
    have hdue : (told rep).roll.due = left := by
      rw [← htold', State.takeRollReport_roll (s := s.freeLine) { s.roll with
        due := s.roll.due.filter fun m => m ≠ h.name, hand := none } rfl, hleft]
    unfold State.finishRoll
    dsimp only
    have hrep' : rollReportOf h (s.freeLine.entry h.name) s.freeLine.roll.strikeLimit s.freeLine.roll.round a = rep := hrep
    rw [hrep']
    have htold'' : State.takeRollReport h.name rep { s.freeLine with roll := { s.freeLine.roll with
      due := s.freeLine.roll.due.filter fun m => m ≠ h.name, hand := none } } = told rep := htold'
    rw [htold'', hdue]
    split
    · rename_i hl; exact (hout1 hl rep).symm
    · rename_i hl; exact (hout2 hl rep).symm
  have hexec : exec (.answerEnd edges) s = .next (s.rollAnswer (.roll n) a) := by
    rw [exec_answerEnd_listening hf, ha]; rfl
  have hends : ∀ rep, (a.isClean = true ∨ s.callRetries < h.attempts) →
      rollReportOf h (s.entry h.name) s.roll.strikeLimit s.roll.round a = rep →
      exec (.answerEnd edges) s = .next (out rep).decideGrant := fun rep hc hrep => by
    rw [hexec, State.rollAnswer_ends hh hc, hfinish rep hrep]
  refine ⟨fun hmiss => ⟨fun hr => ?_, fun hr => ?_⟩, fun vals hv => ⟨fun hi => ?_, fun hi hs => ?_, fun hi hs => ?_⟩⟩
  · rw [hexec, State.rollAnswer_repeated hh hmiss hr]; rfl
  · exact hends miss (.inr hr) (rollReportOf_missed hmiss h1 h2 h3 h4)
  all_goals
    refine hends _ (.inl (by rw [hv]; rfl)) ?_
    rw [hv]
  · exact if_neg hi
  · exact (if_pos hi).trans (if_pos hs)
  · exact (if_pos hi).trans (if_neg hs)

/-! ### READ and WRITE (R66, R67, R71, R152) -/

theorem State.finishRequest_eq (k : SlotNo) (r : Result) (ws : List Word) (s : State) :
    s.finishRequest k r ws = State.decideGrant { s with
      line := { s.line with flight := .free }
      req := { s.req with
        slots := s.req.slots.set k.val { s.slot k with
          phase := .done, result := r, latched := none, wait := none
          data := Vector.ofFn fun j => ws.getD j.val (s.slot k).data[j] } k.isLt
        postOrder := s.req.postOrder.filter (fun j => j ≠ k)
        hand := none }
      port := { s.port with alert := s.port.alert ||| 4#7 } } := rfl

theorem State.requestAnswer_read {h : RequestCall} (hh : s.req.hand = some h) (n : Name) (a : Word) (k : Nat)
    (ans : Answer) : s.requestAnswer (.read n a k) ans = s.readAnswer h (.read n a k) k ans := by
  simp only [State.requestAnswer, hh]

theorem State.requestAnswer_write {h : RequestCall} (hh : s.req.hand = some h) (n : Name) (a : Word) (ws : List Word)
    (ans : Answer) : s.requestAnswer (.write n a ws) ans = s.finishRequest h.slot (writeResult ws.length ans) [] := by
  simp only [State.requestAnswer, hh]

/-- A READ attempt that is not CLEAN. -/
theorem State.readAnswer_missed {h : RequestCall} {c : Call} {k : Nat} {a : Answer} {g : Bool}
    (ha : (a = .silent ∧ g = h.garbled) ∨ ((∃ vals, a = .garbled vals) ∧ g = true)) : s.readAnswer h c k a =
    if s.callRetries < h.attempts then s.finishRequest h.slot (missResult g) []
    else State.askAgain .requestUnit c
      { s with req := { s.req with hand := some { h with attempts := h.attempts + 1, garbled := g } } } := by
  obtain ⟨rfl, rfl⟩ | ⟨⟨vals, rfl⟩, rfl⟩ := ha
  · simp [State.readAnswer, Answer.isGarbled]
  · simp [State.readAnswer, Answer.isGarbled]

/-- Settles O30. -/
theorem readAndWriteOutcomes : Obligations.ReadAndWriteOutcomes := by
  unfold Obligations.ReadAndWriteOutcomes
  intro s h n addr edges c hh hf ended hended
  have hexec : exec (.answerEnd edges) s = .next (s.requestAnswer c (hearAnswer c edges)) := exec_answerEnd_listening hf edges
  have hfinish : ∀ r ws, s.finishRequest h.slot r ws = ended r ws := fun r ws => by
    rw [State.finishRequest_eq, hended]
  refine ⟨fun count hc => ⟨fun vals hv => ?_, fun g hg => ⟨fun hr => ?_, fun hr h0 => ?_, fun hr h0 => ?_⟩⟩,
    fun ws hc => ⟨fun hv => ?_, fun hv => ?_, fun hv => ?_⟩⟩
  all_goals subst hc
  · rw [hexec, State.requestAnswer_read hh, hv, ← hfinish]; rfl
  · rw [hexec, State.requestAnswer_read hh, State.readAnswer_missed hg, if_neg (by omega)]; rfl
  · rw [hexec, State.requestAnswer_read hh, State.readAnswer_missed hg, if_pos hr, hfinish, h0]; rfl
  · rw [hexec, State.requestAnswer_read hh, State.readAnswer_missed hg, if_pos hr, hfinish, h0]; rfl
  · rw [hexec, State.requestAnswer_write hh, hfinish, hv]
    simp [writeResult]
  · rw [hexec, State.requestAnswer_write hh, hfinish, hv]; rfl
  · rw [hexec, State.requestAnswer_write hh, hfinish]
    obtain ⟨vals, hv⟩ | ⟨vals, hv, hne⟩ := hv
    · rw [hv]; rfl
    · rw [hv]; simp only [writeResult, hne, if_false]

/-! ### MOVE (R153) -/

theorem State.requestAnswer_claim {h : RequestCall} (hh : s.req.hand = some h) (i : Identity) (t : Name) (a : Answer) :
    s.requestAnswer (.claim i t) a = if claimHeard i t a = .accepted then s.finishMove h t .success none a
      else State.askAgain .requestUnit (.roll t)
        { s with req := { s.req with hand := some { h with claimSilent := decide (a = .silent) } } } := by
  simp only [State.requestAnswer, hh, claimHeard_silent_iff]

theorem State.requestAnswer_roll {h : RequestCall} (hh : s.req.hand = some h) (t : Name) {a : Answer} {r : ClaimResult}
    {st : Option Byte} (hv : verifyResult h.ident a = (r, st)) :
    s.requestAnswer (.roll t) a = s.finishMove h t r st a := by
  simp only [State.requestAnswer, hh, hv]

/-- A MOVE's end, with the notices its claim result gives. -/
theorem State.finishMove_eq (h : RequestCall) (t : Name) (r : ClaimResult) (st : Option Byte) (a : Answer)
    {g : List Instr} (hg : g = if r = .failure then [.passWantedNotice .move] else []) :
    s.finishMove h t r st a = (State.give g (s.takeOutcome t h.ident r st)).finishRequest h.slot
      (moveResult h.claimSilent a r) [] := by
  unfold State.finishMove
  subst hg
  split
  · rfl
  · rw [State.give_nil]

/-- Settles O31. -/
theorem moveCallGroup : Obligations.MoveCallGroup := by
  unfold Obligations.MoveCallGroup
  intro s h m t edges c hh ended hended
  have hexec : ∀ {c}, s.line.flight = .listening .requestUnit c →
      exec (.answerEnd edges) s = .next (s.requestAnswer c (hearAnswer c edges)) := fun hf =>
    exec_answerEnd_listening hf edges
  have hmove : ∀ {r : ClaimResult} (st : Option Byte) (a : Answer) {g : List Instr} {res : Result},
      g = (if r = .failure then [.passWantedNotice .move] else []) → moveResult h.claimSilent a r = res →
      s.finishMove h t r st a = ended r st g res := fun {r} st a {g res} hg hres => by
    rw [State.finishMove_eq h t _ st a hg, hres, hended]
  refine ⟨fun hf hl => ?_, fun hf hc => ⟨fun vals hv hi hn => ?_, fun silent hsil => ?_⟩,
    fun hf hc => ⟨fun vals hv => ⟨fun hi => ?_, fun hi => ?_⟩, fun hv hs => ?_, fun hv => ?_⟩⟩
  · have hhand : s.moveInHand = some (h, t) := by simp only [State.moveInHand, hh, hl]
    rw [exec_callSent_sending hf (.inl (by simp))]
    show Host.Outcome.next (s.moveReleaseSent m) = _
    unfold State.moveReleaseSent
    simp only [hhand]
    rfl
  · subst hc
    rw [hexec hf, State.requestAnswer_claim hh, if_pos (claimHeard_accepted_iff.2 ⟨vals, hv, hi, hn⟩),
      hmove none _ rfl rfl]
    rfl
  · subst hc
    have hne : claimHeard h.ident t (hearAnswer (.claim h.ident t) edges) ≠ .accepted := fun hacc => by
      obtain ⟨vals, hv, hi, hn⟩ := claimHeard_accepted_iff.1 hacc
      rw [hv] at hsil
      rcases hsil with ⟨h', -⟩ | ⟨⟨_, h'⟩, -⟩ | ⟨⟨vals', h', hbad⟩, -⟩
      · cases h'
      · cases h'
      · cases h'
        rcases hbad with h | h
        · exact h hi
        · exact h hn
    have hdec : decide (hearAnswer (.claim h.ident t) edges = .silent) = silent := by
      rcases hsil with ⟨h', rfl⟩ | ⟨⟨_, h'⟩, rfl⟩ | ⟨⟨_, h', -⟩, rfl⟩ <;> rw [h'] <;> simp
    rw [hexec hf, State.requestAnswer_claim hh, if_neg hne, hdec]
    rfl
  · subst hc
    rw [hexec hf, hv, State.requestAnswer_roll hh t (verifyResult_success hi), hmove _ _ rfl rfl]
    rfl
  · subst hc
    rw [hexec hf, hv, State.requestAnswer_roll hh t (verifyResult_dispute hi), hmove _ _ rfl rfl]
    rfl
  · subst hc
    rw [hexec hf, hv, State.requestAnswer_roll hh t (verifyResult_failure (.inl rfl)), hmove _ _ rfl rfl]
    simp [moveResult, hs]
  · subst hc
    have hmiss : hearAnswer (.roll t) edges = .silent ∨ ∃ vals, hearAnswer (.roll t) edges = .garbled vals :=
      hv.elim .inr fun h => .inl h.1
    rw [hexec hf, State.requestAnswer_roll hh t (verifyResult_failure hmiss), hmove _ _ rfl rfl]
    have hres : moveResult h.claimSilent (hearAnswer (.roll t) edges) .failure = .garbled := by
      unfold moveResult
      obtain ⟨vals, h'⟩ | ⟨h', hs⟩ := hv
      · simp [h']
      · simp [hs]
    rw [hres]
    rfl

end Sys2Proof.Machine
end

section
/-! PROOFS. Passes of the discovery walker (chapter 6). -/

namespace Sys2Proof.Machine

variable {s : State}

/-! ### A pass starts (R98, R99, R112, R113) -/

/-- `walkerInFlight` as the obligations write it. -/
theorem State.walkerInFlight_iff : s.walkerInFlight = true ↔
    (∃ k, s.line.flight = .sending .walker k ∨ s.line.flight = .listening .walker k ∨ s.line.flight = .gap .walker k) ∨
      ∃ heard, s.line.flight = .windows heard := by
  unfold State.walkerInFlight
  cases s.line.flight with
  | sending b c => cases b <;> simp
  | listening b c => cases b <;> simp
  | gap b c => cases b <;> simp
  | windows heard => simp
  | free => simp
  | clearLow => simp
  | clearIdle => simp
  | releasing n => simp

theorem State.keptClaim_eq {inFlight : Prop} {kept : Option ClaimContext} (hi : inFlight ↔ s.walkerInFlight = true)
    (h1 : inFlight → kept = s.walker.claim) (h2 : ¬ inFlight → kept = none) :
    (if s.walkerInFlight then s.walker.claim else none) = kept := by
  split
  · rename_i h; exact (h1 (hi.2 h)).symm
  · rename_i h; exact (h2 fun hin => h (hi.1 hin)).symm

/-- A started pass as a record, with the claim context it keeps (R98). -/
theorem State.startPass_kept_claim {kept : Option ClaimContext} (h : (if s.walkerInFlight then s.walker.claim else none) = kept)
    (st : WalkerState) : s.startPass st = { s with
      walker := { s.walker with
        state := st, stack := [[]], candidates := [], claim := kept
        passNumber := s.walker.passNumber + 1, counts := ⟨0, 0, 0, 0, 0, 0, 0, 0⟩, sweepCount := 0 }
      given := s.given ++ [.passStartReport] } := by
  rw [State.startPass_eq, h]

theorem WalkerState.ready_iff {st : WalkerState} : st.ready = true ↔ st = .idle ∨ st = .sweepDue := by
  cases st <;> simp [WalkerState.ready]

theorem State.wantPass_of_ready (h : s.walker.state = .idle ∨ s.walker.state = .sweepDue) :
    s.wantPass = s.startFurther := by
  unfold State.wantPass
  rcases h with h | h <;> rw [h]

theorem State.wantPass_of_not_ready (h : s.walker.state ≠ .idle) (h' : s.walker.state ≠ .sweepDue) :
    s.wantPass = { s with walker := { s.walker with owed := true } } := by
  unfold State.wantPass
  split
  · contradiction
  · contradiction
  · rfl

theorem State.takePassWanted_of_ready (h : s.walker.state = .idle ∨ s.walker.state = .sweepDue) :
    s.takePassWanted = s.startFurther.decideGrant := by
  rw [State.takePassWanted, if_pos (WalkerState.ready_iff.2 h), State.wantPass_of_ready h]

theorem State.takePassWanted_of_not_ready (h : s.walker.state ≠ .idle) (h' : s.walker.state ≠ .sweepDue) :
    s.takePassWanted = { s with walker := { s.walker with owed := true } } := by
  have hr : ¬ s.walker.state.ready = true := fun hr => (WalkerState.ready_iff.1 hr).elim h h'
  rw [State.takePassWanted, if_neg hr, State.wantPass_of_not_ready h h']

/-- Outside DISCOVERING and SERVING no further pass starts, and no grant is decided. -/
theorem State.startFurther_decideGrant_of_lineOff (h : s.cm.state.lineOn = false) : s.startFurther.decideGrant = s := by
  rw [s.startFurther_of_lineOff h, s.decideGrant_of_lineOff h]

theorem exec_retryDueNotice : exec .retryDueNotice s = .next (match s.walker.state with
    | .idle => (s.take .retryDueNotice).startFurther.decideGrant
    | .sweepDue => (s.take .retryDueNotice).startFurther.decideGrant
    | .sweeping => { s.take .retryDueNotice with walker := { s.walker with owed := true } }
    | .awaitClear => s.take .retryDueNotice
    | .walking => s.take .retryDueNotice) := rfl

theorem exec_retryDueNotice_of_ready (h : s.walker.state = .idle ∨ s.walker.state = .sweepDue) :
    exec .retryDueNotice s = .next (s.take .retryDueNotice).startFurther.decideGrant := by
  rw [exec_retryDueNotice]
  rcases h with h | h <;> rw [h]

/-- Settles O32, state by state of the walker. -/
theorem passStarts : Obligations.PassStarts := by
  unfold Obligations.PassStarts
  intro s src inFlight kept hin hk1 hk2 begun hbegun
  have hkept := State.keptClaim_eq (hin.trans State.walkerInFlight_iff.symm) hk1 hk2
  have hstart : ∀ (c : Instr) (st : WalkerState), (s.take c).startPass st = begun st (s.given.erase c) := fun c st => by
    rw [State.startPass_kept_claim (s := s.take c) hkept, hbegun]; rfl
  refine ⟨fun hc hw => ?_, fun h => ?_, fun hw => ⟨fun hc => ⟨?_, ?_⟩, fun h1 h2 => ⟨?_, ?_⟩⟩, fun hw => ?_, fun hw => ?_,
    fun hw => ?_⟩
  · have h : ¬ ((s.take .firstPassNotice).cm.state ≠ .discovering ∨
        (s.take .firstPassNotice).walker.state = .walking) := fun h => h.elim (· hc) hw
    exact congrArg Host.Outcome.next ((if_neg h).trans (hstart _ _))
  · exact congrArg Host.Outcome.next (if_pos h)
  · have hon : (s.take (.passWantedNotice src)).cm.state.lineOn = true := (CouplingState.lineOn_iff _).2 hc
    refine congrArg Host.Outcome.next ((State.takePassWanted_of_ready (s := s.take _) hw).trans ?_)
    rw [State.startFurther_of_lineOn _ hon, hstart]
  · have hon : (s.take .retryDueNotice).cm.state.lineOn = true := (CouplingState.lineOn_iff _).2 hc
    rw [exec_retryDueNotice_of_ready hw, State.startFurther_of_lineOn _ hon, hstart]
  · have hoff : (s.take (.passWantedNotice src)).cm.state.lineOn = false := (CouplingState.lineOn_eq_false_iff _).2 ⟨h1, h2⟩
    refine congrArg Host.Outcome.next ((State.takePassWanted_of_ready (s := s.take _) hw).trans ?_)
    exact State.startFurther_decideGrant_of_lineOff hoff
  · have hoff : (s.take .retryDueNotice).cm.state.lineOn = false := (CouplingState.lineOn_eq_false_iff _).2 ⟨h1, h2⟩
    rw [exec_retryDueNotice_of_ready hw, State.startFurther_decideGrant_of_lineOff hoff]
    rfl
  · refine congrArg Host.Outcome.next (State.takePassWanted_of_not_ready (s := s.take _) ?_ ?_)
    · show s.walker.state ≠ _
      rcases hw with h | h | h <;> simp [h]
    · show s.walker.state ≠ _
      rcases hw with h | h | h <;> simp [h]
  · rw [exec_retryDueNotice, hw]; rfl
  · rw [exec_retryDueNotice]
    rcases hw with h | h <;> rw [h] <;> rfl

/-! ### A pass ends (R110, R111) -/

theorem passResultOf_eq {c : PassCounts} {how : PassEnd} {r : PassResult}
    (hh : how = if 255 ≤ c.seeks then .budget else .completion)
    (hr : r = if c.unresolved = 0 ∧ c.dropped = 0 ∧ c.noRoom = 0 ∧ c.seeks < 255 then .complete else .incomplete) :
    passResultOf c how = r := by
  subst hh hr
  unfold passResultOf
  by_cases h : 255 ≤ c.seeks
  · simp [h, Nat.not_lt.2 h]
  · simp [h, Nat.not_le.1 h]

/-- A pass that ends at the walker with no call of the walker in flight, and no pass owed (R111). -/
theorem State.endPass_unowed {how : PassEnd} {r : PassResult} {attempts : Nat} (hh : how = .completion ∨ how = .budget)
    (hf : s.line.flight = .free) (ho : s.walker.owed = false) (hr : passResultOf s.walker.counts how = r)
    (ha : attempts = if r = .complete then 0 else min 8 (s.walker.attempts + 1)) : s.endPass how = { s with
      walker := { s.walker with
        state := .idle, stack := [], candidates := [], claim := none, attempts := attempts
        record := ⟨s.walker.passNumber, r, s.walker.counts⟩ }
      port := { s.port with recGen := s.port.recGen + 2, alert := s.port.alert ||| 8#7 }
      given := s.given ++ [.passEndReport r (decide (r ≠ .complete ∧ attempts < s.walker.passAttempts))] } := by
  have hin : s.walkerInFlight = false := by simp only [State.walkerInFlight, hf]
  have hatt : attemptsAfter s.walker.attempts r how = attempts := by rw [ha]; obtain rfl | rfl := hh <;> rfl
  have hfol : followUpWanted s.walker r how = decide (r ≠ .complete ∧ attempts < s.walker.passAttempts) := by
    obtain rfl | rfl := hh <;> simp only [followUpWanted, ho, Bool.not_false, Bool.and_true] <;> rw [hatt]
  unfold State.endPass
  simp only [ho, Bool.false_eq_true, if_false, State.closePass_eq, hr, hin, hatt, hfol]

/-- The same with a pass owed, which starts at once (R111, R112). -/
theorem State.endPass_owed {how : PassEnd} {r : PassResult} {attempts : Nat} (hh : how = .completion ∨ how = .budget)
    (hf : s.line.flight = .free) (ho : s.walker.owed = true) (hr : passResultOf s.walker.counts how = r)
    (ha : attempts = if r = .complete then 0 else min 8 (s.walker.attempts + 1)) : s.endPass how = { s with
      walker := { s.walker with
        state := .walking, stack := [[]], candidates := [], claim := none, attempts := attempts
        record := ⟨s.walker.passNumber, r, s.walker.counts⟩
        passNumber := s.walker.passNumber + 1, counts := ⟨0, 0, 0, 0, 0, 0, 0, 0⟩, sweepCount := 0, owed := false }
      port := { s.port with recGen := s.port.recGen + 2, alert := s.port.alert ||| 8#7 }
      given := s.given ++ [.passEndReport r false, .passStartReport] } := by
  have hin : s.walkerInFlight = false := by simp only [State.walkerInFlight, hf]
  have hatt : attemptsAfter s.walker.attempts r how = attempts := by rw [ha]; obtain rfl | rfl := hh <;> rfl
  have hfol : followUpWanted s.walker r how = false := by
    obtain rfl | rfl := hh <;> simp only [followUpWanted, ho, Bool.not_true, Bool.and_false]
  have hin' : ∀ w p g, State.walkerInFlight { s with walker := w, port := p, given := g } = false := fun _ _ _ => hin
  unfold State.endPass
  simp only [ho, if_true, State.closePass_eq, State.startPass_eq, hr, hin, hin', hatt, hfol, Bool.false_eq_true, if_false,
    List.append_assoc, List.cons_append, List.nil_append]

/-! ### The windows of a seek (R102 to R104) -/

/-- The judged windows, numbered. -/
theorem judgeWindows_eq (p : Prefix) (k : Nat) (l : List Window) : judgeWindows p k l =
    (List.range' k l.length).map fun w => judgeWindow p w (l.getD (w - k) .silent) := by
  induction l generalizing k with
  | nil => rfl
  | cons x rest ih =>
    rw [judgeWindows, List.length_cons, List.range'_succ, List.map_cons, ih]
    congr 1
    · simp
    · refine List.map_congr_left fun w hw => ?_
      have hw : k + 1 ≤ w := (List.mem_range'_1.1 hw).1
      obtain ⟨j, rfl⟩ : ∃ j, w = k + 1 + j := ⟨w - (k + 1), by omega⟩
      have h1 : k + 1 + j - (k + 1) = j := by omega
      have h2 : k + 1 + j - k = j + 1 := by omega
      rw [h1, h2, List.getD_cons_succ]

theorem candidatesOf_map (f : Nat → Window) (l : List Nat) : candidatesOf (l.map f) = l.filterMap fun w =>
    match f w with
    | .clean i c => some ⟨i, c⟩
    | _ => none := by
  induction l with
  | nil => rfl
  | cons w rest ih =>
    rw [List.map_cons, List.filterMap_cons]
    cases h : f w with
    | silent => simp only [candidatesOf, ih]
    | garbled => simp only [candidatesOf, ih]
    | clean i c => simp only [candidatesOf, ih]

theorem garbledDown_map (f : Nat → Window) (k n : Nat) : garbledDown k ((List.range' k n).map f) =
    ((List.range' k n).filter fun w => decide (f w = .garbled)).reverse := by
  induction n generalizing k with
  | zero => rfl
  | succ n ih =>
    rw [List.range'_succ, List.map_cons, garbledDown, ih, List.filter_cons]
    split
    · rename_i h; simp [h]
    · rename_i h; simp [h]

/-- The windows of a seek as the walker judges them, given by their numbers. -/
theorem judgeWindows_zero {p : Prefix} {heard : List Window} {judged : Nat → Window}
    (h : ∀ w, judged w = judgeWindow p w (heard.getD w .silent)) :
    judgeWindows p 0 heard = (List.range heard.length).map judged := by
  rw [judgeWindows_eq, List.range_eq_range']
  exact List.map_congr_left fun w _ => (h w).symm

theorem judgeWindow_eq (p : Prefix) (w : Nat) (x : Window) : judgeWindow p w x = match x with
    | .clean i c =>
      if (identityDigits i).take p.length = p ∧ digitAt i p.length = BitVec.ofNat 4 w ∧ i ≠ 0 ∧
          i ≠ BitVec.allOnes 48 then .clean i c else .garbled
    | x => x := by
  cases x with
  | silent => rfl
  | garbled => rfl
  | clean i c =>
    have hall : BitVec.allOnes 48 = 0xFFFFFFFFFFFF#48 := rfl
    have hzero : (0 : Identity) = 0#48 := rfl
    simp only [judgeWindow, hasPrefix, Config.excludedIdentity, decide_eq_true_eq, Bool.or_eq_false_iff,
      decide_eq_false_iff_not, hall, hzero, ne_eq]

/-- The pushes of a seek: as many as the stack has room for, the smallest digit last and so on top; the others are
counted in DROPPED (R100, R103). -/
theorem Walker.takeGarbled_push {p : Prefix} (hp : p.length ≤ 10) (l : List Nat) (w : Walker)
    (hs : w.stack.length ≤ 24) (hd : w.counts.dropped ≤ 255) : Walker.takeGarbled p w l = { w with
      stack := ((l.take (24 - w.stack.length)).reverse.map fun g => p ++ [BitVec.ofNat 4 g]) ++ w.stack
      counts := { w.counts with dropped := min 255 (w.counts.dropped + (l.length - (24 - w.stack.length))) } } := by
  induction l generalizing w with
  | nil => simp [Walker.takeGarbled, Nat.min_eq_right hd]
  | cons g rest ih =>
    rw [Walker.takeGarbled, if_pos (show p.length < Config.prefixMax from Nat.lt_succ_of_le hp)]
    by_cases hroom : w.stack.length < 24
    · have hpush : w.push (p ++ [BitVec.ofNat 4 g]) = { w with stack := (p ++ [BitVec.ofNat 4 g]) :: w.stack } :=
        if_pos hroom
      obtain ⟨r, hr⟩ : ∃ r, 24 - w.stack.length = r + 1 := ⟨23 - w.stack.length, by omega⟩
      have hr' : 24 - (w.stack.length + 1) = r := by omega
      rw [hpush]
      refine (ih { w with stack := (p ++ [BitVec.ofNat 4 g]) :: w.stack } hroom hd).trans ?_
      simp only [List.length_cons, hr, hr', List.take_succ_cons, List.reverse_cons, List.map_append, List.map_cons,
        List.map_nil, List.append_assoc, List.cons_append, List.nil_append, Nat.add_sub_add_right]
    · have hpush : w.push (p ++ [BitVec.ofNat 4 g]) =
          { w with counts := { w.counts with dropped := min 255 (w.counts.dropped + 1) } } := if_neg hroom
      have hr : 24 - w.stack.length = 0 := by omega
      have hcount : min 255 (min 255 (w.counts.dropped + 1) + rest.length) =
          min 255 (w.counts.dropped + (rest.length + 1)) := by omega
      rw [hpush]
      refine (ih { w with counts := { w.counts with dropped := min 255 (w.counts.dropped + 1) } } hs
        (Nat.min_le_left _ _)).trans ?_
      simp only [hr, List.take_zero, List.length_cons, Nat.sub_zero, hcount]

/-- At length 11 each GARBLED window counts UNRESOLVED (R103). -/
theorem Walker.takeGarbled_unresolved {p : Prefix} (hp : p.length = 11) (l : List Nat) (w : Walker)
    (hd : w.counts.unresolved ≤ 255) : Walker.takeGarbled p w l = { w with
      counts := { w.counts with unresolved := min 255 (w.counts.unresolved + l.length) } } := by
  induction l generalizing w with
  | nil => simp [Walker.takeGarbled, Nat.min_eq_right hd]
  | cons g rest ih =>
    have hcount : min 255 (min 255 (w.counts.unresolved + 1) + rest.length) =
        min 255 (w.counts.unresolved + (rest.length + 1)) := by omega
    rw [Walker.takeGarbled, if_neg (show ¬ p.length < Config.prefixMax from hp ▸ Nat.lt_irrefl 11)]
    refine (ih _ (Nat.min_le_left _ _)).trans ?_
    simp only [countUp, addUpTo, Config.counterMax, hcount, List.length_cons]

theorem State.handWindows_walking {p : Prefix} (hw : s.walker.state = .walking) (hp : s.walker.seeking = some p)
    (heard : List Window) : s.handWindows heard = s.walkWindows p (judgeWindows p 0 heard) := by
  unfold State.handWindows
  simp only [hp, hw]

theorem State.handWindows_sweeping {p : Prefix} (hw : s.walker.state = .sweeping) (hp : s.walker.seeking = some p)
    (heard : List Window) : s.handWindows heard = s.sweepWindows (judgeWindows p 0 heard) := by
  unfold State.handWindows
  simp only [hp, hw]

theorem judgeWindow_silent_iff {p : Prefix} {w : Nat} {x : Window} : judgeWindow p w x = .silent ↔ x = .silent := by
  cases x with
  | silent => simp [judgeWindow]
  | garbled => simp [judgeWindow]
  | clean i c => simp only [judgeWindow, reduceCtorEq, iff_false]; split <;> simp

theorem judgeWindows_all_silent_iff (p : Prefix) (k : Nat) (l : List Window) :
    (judgeWindows p k l).all (fun x => decide (x = .silent)) = true ↔ ∀ w ∈ l, w = .silent := by
  induction l generalizing k with
  | nil => simp [judgeWindows]
  | cons x rest ih => simp [judgeWindows, ih, judgeWindow_silent_iff]

/-- A seek's windows taken, where what they push or count is known: the pass goes on below the budget, and ends
INCOMPLETE on it (R103, R104). -/
theorem State.walkWindows_of {p : Prefix} {judged : List Window} {w : Walker} (h : s.walker.takeWindows p judged = w)
    {k : Nat} (hk : w.counts.seeks = k) : s.walkWindows p judged =
      if 255 ≤ k then State.endPass .budget { s with walker := w } else State.endIfDone { s with walker := w } := by
  subst hk h
  rfl

/-- Settles O33. -/
theorem seekWindowsTaken : Obligations.SeekWindowsTaken := by
  unfold Obligations.SeekWindowsTaken
  refine ⟨fun s p heard judged garbled stack counts hw hseek hcand hlen hj hgarb hsc => ?_,
    fun s heard hw hseek hf hlen begun hbegun => ⟨fun hsil => ⟨fun ho => ?_, fun ho => ?_⟩, fun hsome => ?_⟩⟩
  · have hjudged : judgeWindows p 0 heard = (List.range 16).map judged := by
      rw [judgeWindows_zero fun w => (hj w).trans (judgeWindow_eq p w _).symm, hlen]
    have hdown : garbledDown 0 (judgeWindows p 0 heard) = garbled.reverse := by
      rw [hjudged, List.range_eq_range', garbledDown_map, hgarb, List.range_eq_range']
    obtain ⟨w, hwalk⟩ : ∃ w : Walker, w = { s.walker with
        candidates := (List.range 16).filterMap fun w =>
          match judged w with
          | .clean i c => some ⟨i, c⟩
          | _ => none
        foundLen := p.length, seeking := none, stack := stack, counts := counts } := ⟨_, rfl⟩
    have htake : s.walker.takeWindows p (judgeWindows p 0 heard) = w := by
      unfold Walker.takeWindows
      rw [hwalk, hdown, hjudged, candidatesOf_map, hcand, List.nil_append]
      obtain ⟨surplus, ⟨hp, hs, hd, hsur, rfl, rfl⟩ | ⟨hp, hu, rfl, rfl⟩⟩ := hsc
      · have hroom : (garbled.reverse.take (24 - s.walker.stack.length)).reverse = garbled.drop surplus := by
          rw [List.take_reverse, List.reverse_reverse]
          congr 1
          omega
        have hcount : garbled.length - (24 - s.walker.stack.length) = surplus := by omega
        refine (Walker.takeGarbled_push hp _ _ ?_ ?_).trans ?_
        · exact hs
        · exact hd
        simp only [hroom, List.length_reverse, hcount]
      · refine (Walker.takeGarbled_unresolved hp _ _ ?_).trans ?_
        · exact hu
        simp only [List.length_reverse]
    have hseeks : w.counts.seeks = s.walker.counts.seeks := by
      rw [hwalk]
      obtain ⟨surplus, ⟨-, -, -, -, -, rfl⟩ | ⟨-, -, -, rfl⟩⟩ := hsc <;> rfl
    rw [State.handWindows_walking hw hseek, State.walkWindows_of htake hseeks]
    refine ⟨fun hb => ?_, fun hb hf ended told hended htold => ⟨fun ho => ?_, fun ho => ?_⟩⟩
    · exact (if_neg (by omega)).trans (congrArg (fun w => State.endIfDone { s with walker := w }) hwalk)
    · have howed : w.owed = false := by rw [hwalk]; exact ho
      rw [if_pos hb, State.endPass_unowed (s := { s with walker := w }) (r := .incomplete) (.inr rfl) hf howed rfl rfl,
        htold, hended, hwalk]
      simp
    · have howed : w.owed = true := by rw [hwalk]; exact ho
      rw [if_pos hb, State.endPass_owed (s := { s with walker := w }) (r := .incomplete) (.inr rfl) hf howed rfl rfl,
        htold, hended, hwalk]
      simp
  all_goals
    have hstart : ∀ w : Walker, w.passNumber = s.walker.passNumber → State.startPass .walking { s with walker := w } = { s with
        walker := { w with
          state := .walking, stack := [[]], candidates := [], claim := none
          passNumber := s.walker.passNumber + 1, counts := ⟨0, 0, 0, 0, 0, 0, 0, 0⟩, sweepCount := 0 }
        given := s.given ++ [.passStartReport] } := fun w hn => by
      rw [State.startPass_kept_claim (kept := none) (by simp only [State.walkerInFlight, hf]; rfl)]
      simp only [hn]
    rw [State.handWindows_sweeping hw hseek]
    unfold State.sweepWindows
  · rw [if_pos ((judgeWindows_all_silent_iff _ _ _).2 hsil), if_neg (by simp [ho])]
  · rw [if_pos ((judgeWindows_all_silent_iff _ _ _).2 hsil), if_pos ho, hstart { s.walker with owed := false, seeking := none } rfl,
      hbegun]
  · have hnot : ¬ (judgeWindows [] 0 heard).all (fun x => decide (x = .silent)) = true := fun h =>
      let ⟨w, hm, hne⟩ := hsome
      hne ((judgeWindows_all_silent_iff _ _ _).1 h w hm)
    rw [if_neg hnot, hstart { s.walker with owed := false } rfl, hbegun, State.handWindows_walking (p := []) rfl rfl]
    simp only [hseek]

/-! ### The last window of a seek (R98, R104, R110, R111) -/

theorem judgeWindows_silent (p : Prefix) (k n : Nat) :
    judgeWindows p k (List.replicate n .silent) = List.replicate n .silent := by
  induction n generalizing k with
  | zero => rfl
  | succ n ih => rw [List.replicate_succ, judgeWindows, ih]; rfl

theorem candidatesOf_silent (n : Nat) : candidatesOf (List.replicate n .silent) = [] := by
  induction n with
  | zero => rfl
  | succ n ih => rw [List.replicate_succ, candidatesOf, ih]; exact fun _ _ h => by cases h

theorem garbledDown_silent (k n : Nat) : garbledDown k (List.replicate n .silent) = [] := by
  induction n generalizing k with
  | zero => rfl
  | succ n ih => rw [List.replicate_succ, garbledDown, ih]; rfl

/-- SILENT windows add nothing to the walker. -/
theorem Walker.takeWindows_silent (p : Prefix) (n : Nat) (w : Walker) :
    w.takeWindows p (judgeWindows p 0 (List.replicate n .silent)) = { w with foundLen := p.length, seeking := none } := by
  rw [Walker.takeWindows, judgeWindows_silent, candidatesOf_silent, garbledDown_silent, List.append_nil]
  rfl

/-- Settles O34. -/
theorem seekEndsPass : Obligations.SeekEndsPass := by
  unfold Obligations.SeekEndsPass
  intro s p attempts r hw hseek hf hdone hr hattempts closed hclosed
  obtain ⟨how, hhow⟩ : ∃ how : PassEnd, how = if 255 ≤ s.walker.counts.seeks then .budget else .completion := ⟨_, rfl⟩
  have hcases : how = .completion ∨ how = .budget := by
    rw [hhow]; split
    · exact .inr rfl
    · exact .inl rfl
  obtain ⟨w, hwalk⟩ : ∃ w : Walker, w = { s.walker with foundLen := p.length, seeking := none } := ⟨_, rfl⟩
  have htake : s.walker.takeWindows p (judgeWindows p 0 (List.replicate 16 .silent)) = w := by
    rw [Walker.takeWindows_silent, hwalk]
  have hcounts : w.counts = s.walker.counts := by rw [hwalk]
  have hexec : exec (.windowEnd []) s = .next (State.decideGrant (State.endPass how { s.freeLine with walker := w })) := by
    rw [exec_windowEnd_windows [] hf]
    have hall : List.replicate 15 .silent ++ [hearWindow []] = List.replicate 16 Window.silent := rfl
    rw [hall, if_pos (by simp), State.handWindows_walking (s := s.freeLine) hw hseek,
      State.walkWindows_of (s := s.freeLine) htake rfl, hcounts]
    by_cases hb : 255 ≤ s.walker.counts.seeks
    · rw [if_pos hb] at hhow ⊢
      rw [hhow]
    · have hempty := hdone.resolve_right hb
      rw [if_neg hb] at hhow ⊢
      have hidle : w.state = .walking ∧ w.candidates = [] ∧ w.stack = [] := by rw [hwalk]; exact ⟨hw, hempty⟩
      rw [hhow, State.endIfDone, if_pos hidle]
  have hres : passResultOf w.counts how = r := by rw [hcounts]; exact passResultOf_eq hhow hr
  have hatt : attempts = if r = .complete then 0 else min 8 (w.attempts + 1) := by rw [hwalk]; exact hattempts
  have howed : w.owed = s.walker.owed := by rw [hwalk]
  rw [hexec]
  refine ⟨fun ho => ?_, fun ho => ?_⟩
  · rw [State.endPass_unowed (s := { s.freeLine with walker := w }) hcases rfl (howed.trans ho) hres hatt, hclosed, hwalk]
    rfl
  · rw [State.endPass_owed (s := { s.freeLine with walker := w }) hcases rfl (howed.trans ho) hres hatt, hclosed, hwalk]
    rfl

/-! ### Line clear, loss of the coupling and the round end (R99, R114, R116, R117) -/

theorem exec_walkerLineClearSent : exec .walkerLineClearSent s = .next
    (if (s.take .walkerLineClearSent).walkerLineClear.walker.state = .walking then
      (s.take .walkerLineClearSent).walkerLineClear.decideGrant
    else (s.take .walkerLineClearSent).walkerLineClear) := rfl

/-- The line-clear-sent notice where the walker is WALKING afterwards. -/
theorem exec_walkerLineClearSent_of {u : State} (h : (s.take .walkerLineClearSent).walkerLineClear = u)
    (hw : u.walker.state = .walking) : exec .walkerLineClearSent s = .next u.decideGrant := by
  rw [exec_walkerLineClearSent, h, if_pos hw]

/-- A pass closed for a RESEAT and a fresh one started (R117). -/
theorem State.walkerLineClear_reseat {kept : Option ClaimContext}
    (hkept : (if s.walkerInFlight then s.walker.claim else none) = kept)
    (hw : s.walker.state = .walking) (hc : s.cm.state ≠ .discovering) : s.walkerLineClear = { s with
      walker := { s.walker with
        state := .walking, stack := [[]], candidates := [], claim := kept, seeking := none
        record := ⟨s.walker.passNumber, .incomplete, s.walker.counts⟩
        passNumber := s.walker.passNumber + 1, counts := ⟨0, 0, 0, 0, 0, 0, 0, 0⟩, sweepCount := 0
        owed := false }
      port := { s.port with recGen := s.port.recGen + 2, alert := s.port.alert ||| 8#7 }
      given := s.given ++ [.passEndReport .incomplete false, .passStartReport] } := by
  have hf' : ∀ w : Walker, ∀ p g, State.walkerInFlight { s with walker := w, port := p, given := g } = s.walkerInFlight :=
    fun _ _ _ => rfl
  have hkept' : (if s.walkerInFlight then if s.walkerInFlight then s.walker.claim else none else none) = kept := by
    rw [← hkept]; split <;> rfl
  unfold State.walkerLineClear
  simp only [hw, hc, if_false, State.closePass_eq, State.startPass_eq, hf', hkept', passResultOf, followUpWanted,
    attemptsAfter, List.append_assoc, List.cons_append, List.nil_append, reduceCtorEq, false_and]

theorem State.walkerLineClear_ready (h : s.walker.state = .idle ∨ s.walker.state = .sweepDue) :
    s.walkerLineClear = s.startFurther := by
  unfold State.walkerLineClear
  rcases h with h | h <;> rw [h]

/-- The walker after its coupling-lost notice, with what a running pass left (R116). -/
theorem State.walkerLoss_running (h : s.walker.state = .awaitClear ∨ s.walker.state = .walking) : s.walkerLoss = { s with
    walker := { s.walker with
      state := .idle, stack := [], candidates := [], claim := none, seeking := none, owed := false
      attempts := 0, sweepCount := 0
      record := ⟨s.walker.passNumber, .incomplete, s.walker.counts⟩ }
    port := { s.port with recGen := s.port.recGen + 2, alert := s.port.alert ||| 8#7 }
    given := s.given ++ [.passEndReport .incomplete false] } := by
  have hr : s.walker.passRunning = true := decide_eq_true h
  unfold State.walkerLoss
  simp only [hr, if_true, State.closePass_eq, passResultOf, followUpWanted, reduceCtorEq, false_and, if_false]

theorem State.walkerLoss_not_running (h : s.walker.state ≠ .awaitClear) (h' : s.walker.state ≠ .walking) :
    s.walkerLoss = { s with walker := { s.walker with
      state := .idle, stack := [], candidates := [], claim := none, seeking := none, owed := false
      attempts := 0, sweepCount := 0 } } := by
  have hr : s.walker.passRunning = false := decide_eq_false fun h'' => h''.elim h h'
  unfold State.walkerLoss
  simp only [hr, Bool.false_eq_true, if_false]

/-- The round end in SERVING: the sweep counter, and a sweep that comes due (R114). -/
theorem exec_roundEndNotice_serving (h : s.cm.state = .serving) {k : Nat} (hk : k = min 255 (s.walker.sweepCount + 1)) :
    exec .roundEndNotice s = .next (
      if s.walker.sweepRounds ≠ 0 ∧ s.walker.state = .idle ∧ s.walker.sweepRounds ≤ k then
        State.decideGrant { s with
          walker := { s.walker with sweepCount := k, state := .sweepDue }, given := s.given.erase .roundEndNotice }
      else { s with walker := { s.walker with sweepCount := k }, given := s.given.erase .roundEndNotice }) := by
  subst hk
  refine congrArg Host.Outcome.next ((if_pos h).trans ?_)
  split
  · rename_i hsweep; exact if_pos (decide_eq_true hsweep)
  · rename_i hsweep; exact if_neg (mt of_decide_eq_true hsweep)

/-- Settles O35. -/
theorem walkerClearAndLoss : Obligations.WalkerClearAndLoss := by
  unfold Obligations.WalkerClearAndLoss
  refine ⟨fun s why inFlight kept hin hk1 hk2 => ?_, fun s k hk => ⟨fun hc hw h0 hle => ?_, fun hc h => ?_, fun hc => ?_⟩⟩
  · have hkept := State.keptClaim_eq (hin.trans State.walkerInFlight_iff.symm) hk1 hk2
    refine ⟨fun hw => ?_, fun hw hc => ?_, fun hw hc => ?_, fun hw => ⟨fun hc => ?_, fun h1 h2 => ?_⟩, fun hw => ?_,
      fun hw => ?_, fun h1 h2 => ?_⟩
    · refine exec_walkerLineClearSent_of ?_ rfl
      unfold State.walkerLineClear
      have hw' : (s.take .walkerLineClearSent).walker.state = .awaitClear := hw
      rw [hw']
      rfl
    · refine exec_walkerLineClearSent_of (u := s.take .walkerLineClearSent) ?_ hw
      unfold State.walkerLineClear
      have hw' : (s.take .walkerLineClearSent).walker.state = .walking := hw
      rw [hw']
      exact if_pos hc
    · exact exec_walkerLineClearSent_of (State.walkerLineClear_reseat (s := s.take _) hkept hw hc) rfl
    · refine exec_walkerLineClearSent_of ?_ rfl
      have hon : (s.take .walkerLineClearSent).cm.state.lineOn = true := (CouplingState.lineOn_iff _).2 hc
      rw [State.walkerLineClear_ready (s := s.take _) hw, State.startFurther_of_lineOn _ hon, State.startPass_kept_claim (s := s.take _) hkept]
      rfl
    · have hoff : (s.take .walkerLineClearSent).cm.state.lineOn = false := (CouplingState.lineOn_eq_false_iff _).2 ⟨h1, h2⟩
      have hclear : (s.take .walkerLineClearSent).walkerLineClear = s.take .walkerLineClearSent := by
        rw [State.walkerLineClear_ready (s := s.take _) hw, State.startFurther_of_lineOff _ hoff]
      rw [exec_walkerLineClearSent, hclear, if_neg]
      · rfl
      · show ¬ s.walker.state = .walking
        rcases hw with h | h <;> simp [h]
    · have hclear : (s.take .walkerLineClearSent).walkerLineClear =
          { s.take .walkerLineClearSent with walker := { s.walker with owed := true } } := by
        unfold State.walkerLineClear
        have hw' : (s.take .walkerLineClearSent).walker.state = .sweeping := hw
        rw [hw']
        rfl
      rw [exec_walkerLineClearSent, hclear, if_neg (show ¬ s.walker.state = .walking by simp [hw])]
      rfl
    · exact congrArg Host.Outcome.next (State.walkerLoss_running (s := s.take _) hw)
    · exact congrArg Host.Outcome.next (State.walkerLoss_not_running (s := s.take _) h1 h2)
  · rw [exec_roundEndNotice_serving hc hk, if_pos ⟨h0, hw, hle⟩]
  · rw [exec_roundEndNotice_serving hc hk, if_neg]
    rintro ⟨h0, hi, hle⟩
    rcases h with h | h | h
    · exact h hi
    · exact h0 h
    · omega
  · exact congrArg Host.Outcome.next (if_neg hc)

end Sys2Proof.Machine
end

section
/-! PROOFS. Name choice, offers and what settles them, roll reports, acknowledgements (chapter 5). -/

namespace Sys2Proof.Machine

variable {s t : State}

/-! ### Name choice (R81, R82) -/

theorem allNames_sorted : allNames.Pairwise fun n m : Name => n.val < m.val := List.pairwise_lt_finRange 62

theorem mem_allNames (n : Name) : n ∈ allNames := List.mem_finRange n

/-- The first name with a property is the lowest. -/
theorem find?_allNames {b : Name → Bool} {n : Name} (hn : b n = true) (h : ∀ m, m < n → b m = false) :
    allNames.find? b = some n := by
  refine (find?_eq_some_iff_rank allNames_sorted n).2 ⟨mem_allNames n, hn, fun d _ hd => ?_⟩
  by_contra hlt
  rw [h d (Nat.lt_of_not_le hlt)] at hd
  cases hd

theorem State.holder_eq (inv : DirInv s) {n : Name} {i : Identity} (hi : (s.entry n).ident = i)
    (hv : (s.entry n).state ≠ .vacant) : s.holder i = some n := by
  cases hh : s.holder i with
  | none => exact absurd hi (State.holder_none hh n hv)
  | some m =>
    obtain ⟨hmv, hmi⟩ := State.holder_some hh
    by_contra hne
    exact inv.unique m n (fun h => hne (by rw [h])) hmv hv (hmi.trans hi.symm)

theorem State.holder_eq_none {i : Identity} (h : ∀ n, (s.entry n).ident = i → (s.entry n).state = .vacant) :
    s.holder i = none := by
  cases hh : s.holder i with
  | none => rfl
  | some m =>
    obtain ⟨hmv, hmi⟩ := State.holder_some hh
    exact absurd (h m hmi) hmv

theorem State.nameChoice_held {n : Name} {i : Identity} (h : s.holder i = some n) (c : Byte) : s.nameChoice i c =
    match (s.entry n).state with
    | .bound => .reclaim n
    | .held => .reclaim n
    | .stale => .ret n
    | .retiring => .ret n
    | _ => .busy := by
  unfold State.nameChoice
  generalize s.holder i = o at h
  subst h
  rfl

theorem State.nameChoice_unheld {i : Identity} (h : s.holder i = none) (c : Byte) : s.nameChoice i c =
    match s.freeInRange c, s.freeAny with
    | some n, _ => .new n
    | none, some n => .new n
    | none, none => if s.victim.isSome then .evicted else .noRoom := by
  unfold State.nameChoice
  generalize s.holder i = o at h
  generalize s.freeInRange c = f
  generalize s.freeAny = g
  subst h
  cases f with
  | some n => rfl
  | none =>
    cases g with
    | some n => rfl
    | none => rfl

/-- The entry an eviction prefers to every other STALE one of a list (R82). -/
def State.evictsFirst (s : State) (l : List Name) (n : Name) : Prop :=
  n ∈ l ∧ (s.entry n).state = .stale ∧ ∀ m ∈ l, (s.entry m).state = .stale → m ≠ n →
    (s.entry n).keep < (s.entry m).keep ∨ ((s.entry n).keep = (s.entry m).keep ∧ n < m)

theorem State.leastKeep_none {l : List Name} (h : s.leastKeep l = none) : ∀ m ∈ l, (s.entry m).state ≠ .stale := by
  induction l with
  | nil => simp
  | cons a rest ih =>
    unfold State.leastKeep at h
    split at h
    · rename_i hrest
      split at h
      · cases h
      · rename_i hs
        intro m hm
        obtain rfl | hm := List.mem_cons.1 hm
        · exact hs
        · exact ih hrest m hm
    · split at h <;> cases h

theorem State.leastKeep_some {l : List Name} (hl : l.Pairwise fun n m : Name => n.val < m.val) {n : Name}
    (h : s.leastKeep l = some n) : s.evictsFirst l n := by
  induction l generalizing n with
  | nil => cases h
  | cons a rest ih =>
    obtain ⟨ha, hrest⟩ := List.pairwise_cons.1 hl
    unfold State.leastKeep at h
    split at h
    · rename_i hnone
      split at h
      · rename_i hs
        obtain rfl := Option.some.inj h
        refine ⟨by simp, hs, fun m hm hms hne => ?_⟩
        exact absurd hms (State.leastKeep_none hnone m ((List.mem_cons.1 hm).resolve_left hne))
      · cases h
    · rename_i k hk
      obtain ⟨hmem, hst, hmin⟩ := ih hrest hk
      split at h
      · rename_i hs
        obtain rfl := Option.some.inj h
        refine ⟨by simp, hs.1, fun m hm hms hne => ?_⟩
        have hm := (List.mem_cons.1 hm).resolve_left hne
        have hlt : a < m := ha m hm
        by_cases hmk : m = k
        · subst hmk
          exact (Nat.lt_or_eq_of_le hs.2).imp id fun h => ⟨h, hlt⟩
        · rcases hmin m hm hms hmk with h | ⟨h, -⟩
          · exact .inl (Nat.lt_of_le_of_lt hs.2 h)
          · exact (Nat.lt_or_eq_of_le (Nat.le_trans hs.2 (Nat.le_of_eq h))).imp id fun h => ⟨h, hlt⟩
      · rename_i hs
        obtain rfl := Option.some.inj h
        refine ⟨List.mem_cons_of_mem _ hmem, hst, fun m hm hms hne => ?_⟩
        obtain rfl | hm := List.mem_cons.1 hm
        · exact .inl (Nat.lt_of_not_le fun hle => hs ⟨hms, hle⟩)
        · exact hmin m hm hms hne

theorem State.evictsFirst_unique {l : List Name} {n m : Name} (hn : s.evictsFirst l n) (hm : s.evictsFirst l m) :
    n = m := by
  obtain ⟨hnl, hns, hnmin⟩ := hn
  obtain ⟨hml, hms, hmmin⟩ := hm
  by_contra hne
  have h1 := hnmin m hml hms (Ne.symm hne)
  have h2 := hmmin n hnl hns hne
  simp only [Fin.lt_def] at h1 h2
  omega

theorem State.victim_iff (n : Name) : s.victim = some n ↔ s.evictsFirst allNames n := by
  refine ⟨State.leastKeep_some allNames_sorted, fun h => ?_⟩
  cases hv : s.victim with
  | none => exact absurd h.2.1 (State.leastKeep_none hv n (mem_allNames n))
  | some m => rw [State.evictsFirst_unique (State.leastKeep_some allNames_sorted hv) h]

theorem State.victim_isSome_iff : s.victim.isSome = true ↔ ∃ n, (s.entry n).state = .stale := by
  cases hv : s.victim with
  | none =>
    simp only [Option.isSome_none, Bool.false_eq_true, false_iff, not_exists]
    exact fun n => State.leastKeep_none hv n (mem_allNames n)
  | some m => simp only [Option.isSome_some, true_iff]; exact ⟨m, ((State.victim_iff m).1 hv).2.1⟩

theorem State.classEntry_eq {c : Byte} {ce : ClassEntry} (h : ∀ k : Fin 64, k.val = min c.toNat 63 → ce = s.port.classMap[k]) :
    s.classEntry c = ce := (h ⟨min c.toNat 63, by omega⟩ rfl).symm

theorem ClassEntry.covers_iff (ce : ClassEntry) (n : Name) :
    ce.covers n = true ↔ ce.low.toNat ≤ n.val + 1 ∧ n.val + 1 ≤ ce.high.toNat := decide_eq_true_iff

/-- Settles O36. -/
theorem nameChoiceOrder : Obligations.NameChoiceOrder := by
  unfold Obligations.NameChoiceOrder
  intro s i c free inRange ce inv hfree hce hrange
  have hisFree : ∀ n, (s.entry n).isFree = true ↔ free n := fun n => by rw [Entry.isFree_iff, hfree]
  have hcovers : ∀ n, (s.classEntry c).covers n = true ↔ inRange n := fun n => by
    rw [State.classEntry_eq hce, ClassEntry.covers_iff, hrange]
  have hnoneFree : (∀ n, ¬ free n) → s.freeAny = none := fun h =>
    List.find?_eq_none.2 fun n _ hn => h n ((hisFree n).1 hn)
  have hnoneRange : (∀ n, free n → ¬ inRange n) → s.freeInRange c = none := fun h =>
    List.find?_eq_none.2 fun n _ hn => by
      rw [Bool.and_eq_true, hisFree, hcovers] at hn
      exact h n hn.1 hn.2
  refine ⟨fun n hi => ⟨fun hs => ?_, fun hs => ?_, fun hs => ?_⟩, fun hno => ?_, fun n => ?_⟩
  · rw [State.nameChoice_held (State.holder_eq inv hi (by rcases hs with h | h <;> simp [h]))]
    rcases hs with h | h <;> rw [h]
  · rw [State.nameChoice_held (State.holder_eq inv hi (by rcases hs with h | h <;> simp [h]))]
    rcases hs with h | h <;> rw [h]
  · rw [State.nameChoice_held (State.holder_eq inv hi (by rcases hs with h | h <;> simp [h]))]
    rcases hs with h | h <;> rw [h]
  · have hchoice := State.nameChoice_unheld (State.holder_eq_none hno) c
    refine ⟨fun n hf hr hmin => ?_, fun n hnone hf hmin => ?_, fun hnone hst => ?_, fun hnone hst => ?_⟩
    · have hfind : s.freeInRange c = some n := find?_allNames
        (by rw [Bool.and_eq_true, hisFree, hcovers]; exact ⟨hf, hr⟩)
        fun m hm => by
          rw [← Bool.not_eq_true, Bool.and_eq_true, hisFree, hcovers]
          exact hmin m hm
      rw [hchoice, hfind]
    · have hfind : s.freeAny = some n := find?_allNames ((hisFree n).2 hf) fun m hm => by
        rw [← Bool.not_eq_true, hisFree]
        exact hmin m hm
      rw [hchoice, hnoneRange hnone, hfind]
    · rw [hchoice, hnoneRange fun n hf => absurd hf (hnone n), hnoneFree hnone]
      exact if_pos (State.victim_isSome_iff.2 hst)
    · rw [hchoice, hnoneRange fun n hf => absurd hf (hnone n), hnoneFree hnone]
      exact if_neg fun h => let ⟨n, hn⟩ := State.victim_isSome_iff.1 h; hst n hn
  · rw [State.victim_iff]
    exact ⟨fun ⟨_, hs, hmin⟩ => ⟨hs, fun m hm hne => hmin m (mem_allNames m) hm hne⟩,
      fun ⟨hs, hmin⟩ => ⟨mem_allNames n, hs, fun m _ hm hne => hmin m hm hne⟩⟩

/-! ### The walker's claim grant (R82, R83, R106) -/

theorem State.vacateOwed_eq (n : Name) (s : State) : s.vacateOwed n = { s with
    line := { s.line with releases := insertName n s.line.releases }
    dir := { s.dir with
      entries := s.dir.entries.set n.val { state := .vacant, owed := true, gen := (s.entry n).gen + 2 } n.isLt }
    port := { s.port with alert := s.port.alert ||| 2#7 } } := by
  unfold State.vacateOwed
  rw [State.stableEntry_eq]
  rfl

theorem State.depart_retiring {n : Name} (h : s.dir.ackMask.depart = true) :
    s.depart n = s.stableEntry n { s.entry n with state := .retiring, strikes := 0, keep := 0 } := if_pos h

theorem State.depart_vacant {n : Name} (h : s.dir.ackMask.depart = false) : s.depart n = s.vacateOwed n :=
  if_neg (by rw [h]; exact Bool.false_ne_true)

theorem State.walkerGrant_claim {x : Candidate} {rest : List Candidate} (hst : s.walker.state = .walking)
    (hc : s.walker.candidates = x :: rest) : s.walkerGrant = s.claimGrant x := by
  unfold State.walkerGrant; simp only [hst, hc]

theorem State.claimGrant_evicted {x : Candidate} {v : Name} (hn : s.nameChoice x.ident x.cls = .evicted)
    (hv : s.victim = some v) : s.claimGrant x = (s.depart v).dropCandidate PassCounts.addNoRoom := by
  unfold State.claimGrant; rw [hn]
  simp only [State.makeOffer, State.evict, hv]

/-- Settles O37. -/
theorem claimGrantMakesOffer : Obligations.ClaimGrantMakesOffer := by
  unfold Obligations.ClaimGrantMakesOffer
  intro s x rest ce ha hc hf hg hw hcand hce offered hoffered
  rw [← CouplingState.lineOn_iff] at hc
  have hclass : s.classEntry x.cls = ce := State.classEntry_eq hce
  obtain ⟨u, hu⟩ : ∃ u : State, u = { s with line := { s.line with pointer := .walker } } := ⟨_, rfl⟩
  have hgrant : s.grant (.rotation .walker) = u.claimGrant x := by
    subst hu
    exact State.walkerGrant_claim (s := { s with line := { s.line with pointer := .walker } }) hw hcand
  have hchoice : u.nameChoice x.ident x.cls = s.nameChoice x.ident x.cls := by subst hu; rfl
  have hvictim : u.victim = s.victim := by subst hu; rfl
  have hmask : u.dir.ackMask = s.dir.ackMask := by subst hu; rfl
  have hsent : ∀ {t : State}, u.claimGrant x = t → t.line.flight ≠ .free → s.decideGrant = t := fun ht hfl => by
    subst ht
    rw [← hgrant] at hfl ⊢
    exact State.decideGrant_of_sent ha hc hf hg hfl
  refine ⟨fun n hn => ?_, fun n hn => ?_, fun n hn => ?_, fun hn => ?_, fun hn => ?_, fun v hn hv hm => ?_,
    fun v hn hv hm => ?_⟩
  · rw [hoffered]
    refine hsent ?_ (by simp)
    unfold State.claimGrant
    rw [hchoice, hn]
    simp only [State.makeOffer, State.stableEntry_eq]
    subst hu hclass
    rfl
  · rw [hoffered]
    refine hsent ?_ (by simp)
    unfold State.claimGrant
    rw [hchoice, hn]
    simp only [State.makeOffer, State.stableEntry_eq]
    subst hu hclass
    rfl
  · refine hsent ?_ (by simp)
    unfold State.claimGrant
    rw [hchoice, hn]
    subst hu
    rfl
  · rw [hgrant]
    unfold State.claimGrant
    rw [hchoice, hn]
    subst hu
    simp only [State.makeOffer, State.dropCandidate, hcand, List.tail_cons]
    rfl
  · rw [hgrant]
    unfold State.claimGrant
    rw [hchoice, hn]
    subst hu
    simp only [State.makeOffer, State.dropCandidate, hcand, List.tail_cons]
    rfl
  · rw [hgrant, State.claimGrant_evicted (hchoice.trans hn) (hvictim.trans hv),
      State.depart_retiring (by rw [hmask]; exact hm), State.stableEntry_eq]
    subst hu
    simp only [State.dropCandidate, hcand, List.tail_cons]
    rfl
  · rw [hgrant, State.claimGrant_evicted (hchoice.trans hn) (hvictim.trans hv),
      State.depart_vacant (by rw [hmask]; exact hm), State.vacateOwed_eq]
    subst hu
    simp only [State.dropCandidate, hcand, List.tail_cons]
    rfl

/-! ### Claim outcomes (R84 to R88) -/

theorem insertName_ne_self {n : Name} {l : List Name} (h : n ∉ l) : insertName n l ≠ l := fun he =>
  h (he ▸ mem_insertName.2 (.inl rfl))

theorem State.decideIfJoined_same (h : t.line.releases = s.line.releases) : s.decideIfJoined t = t := if_pos h

/-- A name that joins the release list has a grant decided (R50). -/
theorem State.decideIfJoined_joined {n : Name} (hn : n ∉ s.line.releases)
    (h : t.line.releases = insertName n s.line.releases) : s.decideIfJoined t = t.decideGrant :=
  if_neg fun he => insertName_ne_self hn (h.symm.trans he)

theorem exec_claimOutcomeReport (n : Name) (i : Identity) (r : ClaimResult) (st : Option Byte) (s : State) :
    exec (.claimOutcomeReport n i r st) s = .next ((s.take (.claimOutcomeReport n i r st)).decideIfJoined
      ((s.take (.claimOutcomeReport n i r st)).takeOutcome n i r st)) := rfl

theorem exec_moveOutcomeReport (n : Name) (i : Identity) (r : ClaimResult) (st : Option Byte) (s : State) :
    exec (.moveOutcomeReport n i r st) s = .next ((s.take (.moveOutcomeReport n i r st)).decideIfJoined
      ((s.take (.moveOutcomeReport n i r st)).takeOutcome n i r st)) := rfl

/-- A report that finds no offer of its name and identity is ignored (R88). -/
theorem State.takeOutcome_ignored {n : Name} {i : Identity}
    (h : ∀ o, s.dir.offer = some o → o.name ≠ n ∨ o.ident ≠ i) (r : ClaimResult) (st : Option Byte) :
    s.takeOutcome n i r st = s := by
  unfold State.takeOutcome
  split
  · rfl
  · rename_i o ho
    exact if_neg fun he => (h o ho).elim (· he.1) (· he.2)

/-- A standing offer settled: the entry changed in one stable change, no name joined (R84 to R86, R89). -/
theorem State.settled_stable {o : Offer} {r : ClaimResult} {st : Option Byte} {e : Entry} (ho : s.dir.offer = some o)
    (hs : o.stands (s.entry o.name) = true) (h : s.settleOffer o r st = s.stableEntry o.name e) :
    s.decideIfJoined (s.takeOutcome o.name o.ident r st) = { s with
      dir := { s.dir with
        entries := s.dir.entries.set o.name.val { e with gen := (s.entry o.name).gen + 2 } o.name.isLt, offer := none }
      port := { s.port with alert := s.port.alert ||| 2#7 } } := by
  rw [State.takeOutcome_of ho hs, h, State.stableEntry_eq]
  exact State.decideIfJoined_same rfl

/-- A standing offer that failed: the entry freed, its name on the release list (R84, R89). -/
theorem State.settled_failed {o : Offer} {st : Option Byte} (ho : s.dir.offer = some o)
    (hs : o.stands (s.entry o.name) = true) (hn : o.name ∉ s.line.releases)
    (h : s.settleOffer o .failure st = s.vacateOwed o.name) :
    s.decideIfJoined (s.takeOutcome o.name o.ident .failure st) = State.decideGrant { s with
      line := { s.line with releases := insertName o.name s.line.releases }
      dir := { s.dir with
        entries := s.dir.entries.set o.name.val
          { state := .vacant, owed := true, gen := (s.entry o.name).gen + 2 } o.name.isLt, offer := none }
      port := { s.port with alert := s.port.alert ||| 2#7 } } := by
  rw [State.takeOutcome_of ho hs, h, State.vacateOwed_eq, State.decideIfJoined_joined hn rfl]
  rfl

theorem State.disputeEntry_given_eq (n : Name) (s : State) : s.disputeEntry n = { s with
    line := { s.line with releases := insertName n s.line.releases }
    dir := { s.dir with entries := s.dir.entries.set n.val { s.entry n with
      gen := (s.entry n).gen + 2, state := .disputed, conflict := true, owed := true, strikes := 0, keep := 0 } n.isLt }
    port := { s.port with alert := s.port.alert ||| 2#7 }
    given := s.given ++ [.passWantedNotice .dispute] } := by
  unfold State.disputeEntry
  rw [State.stableEntry_eq]
  rfl

/-- A standing offer disputed (R87). -/
theorem State.settled_disputed {o : Offer} {st : Option Byte} (ho : s.dir.offer = some o)
    (hs : o.stands (s.entry o.name) = true) (hn : o.name ∉ s.line.releases) :
    s.decideIfJoined (s.takeOutcome o.name o.ident .dispute st) = State.decideGrant { s with
      line := { s.line with releases := insertName o.name s.line.releases }
      dir := { s.dir with
        entries := s.dir.entries.set o.name.val { s.entry o.name with
          gen := (s.entry o.name).gen + 2, state := .disputed, conflict := true, owed := true
          strikes := 0, keep := 0 } o.name.isLt, offer := none }
      port := { s.port with alert := s.port.alert ||| 2#7 }
      given := s.given ++ [.passWantedNotice .dispute] } := by
  have hset : s.settleOffer o .dispute st = s.disputeEntry o.name := rfl
  rw [State.takeOutcome_of ho hs, hset, State.disputeEntry_given_eq, State.decideIfJoined_joined hn rfl]
  rfl

/-- Settles O38: each outcome by the kind of its offer. -/
theorem claimOutcomes : Obligations.ClaimOutcomes := by
  unfold Obligations.ClaimOutcomes
  refine ⟨fun s n i r st ho => ?_, fun s n i k prior st e ho he hn hm hk hkr left hleft released hreleased =>
    ⟨fun hkind => ?_, fun hkind => ?_, fun hkind => ?_, fun hkind => ?_, fun hkind => ?_, fun hkind => ?_, ?_,
      fun n' i' r st' hne => ?_⟩⟩
  · rw [exec_claimOutcomeReport, State.takeOutcome_ignored (s := s.take _) (fun o h => by
      rw [State.take_dir, ho] at h; cases h), State.decideIfJoined_same rfl]
    rfl
  all_goals subst he
  on_goal 8 =>
    rw [exec_claimOutcomeReport, State.takeOutcome_ignored (s := s.take _) (fun o h => by
      rw [State.take_dir, ho] at h
      obtain rfl := Option.some.inj h
      exact hne.imp Ne.symm Ne.symm), State.decideIfJoined_same rfl]
    rfl
  all_goals
    have hstands : Offer.stands ⟨n, i, k, prior⟩ (s.entry n) = true := Offer.stands_of hk hkr
    have htake : ∀ c, (s.take c).dir.offer = some ⟨n, i, k, prior⟩ := fun _ => ho
    rw [exec_claimOutcomeReport]
  · subst hkind
    rw [State.settled_stable (s := s.take _) (htake _) hstands rfl, hleft]
    rfl
  · subst hkind
    rw [State.settled_stable (s := s.take _) (htake _) hstands rfl, hleft]
    rfl
  · subst hkind
    rw [State.settled_stable (s := s.take _) (htake _) hstands rfl, hleft]
    rfl
  · subst hkind
    rw [State.settled_failed (s := s.take _) (htake _) hstands hn rfl, hreleased, hleft]
    simp only [List.append_nil]
    rfl
  · subst hkind
    rw [State.settled_stable (s := s.take _) (htake _) hstands rfl, hleft]
    rfl
  · subst hkind
    rw [State.takeOutcome_of (s := s.take _) (htake _) hstands]
    exact congrArg Host.Outcome.next (State.decideIfJoined_same rfl)
  · rw [State.settled_disputed (s := s.take _) (htake _) hstands hn, hreleased, hleft]
    rfl

/-! ### A MOVE at the directory (R89) -/

/-- What a MOVE's release makes of its target: an entry offered to the old entry's device. -/
def offeredByMove (ce : ClassEntry) (t : Name) (e : Entry) : Entry :=
  { state := .offered, ident := e.ident, cls := e.cls, role := e.role, devstat := e.devstat, outside := !ce.covers t }

theorem State.takeMoveRelease_of {m t : Name} (hc : s.cm.state = .serving) (hb : (s.entry m).state = .bound) :
    s.takeMoveRelease m t = State.recordOffer t (s.entry m).ident .move (vacantEntry false)
      ((s.vacate m).stableEntry t (offeredByMove (s.classEntry (s.entry m).cls) t (s.entry m))) := if_pos ⟨hc, hb⟩

theorem State.entry_recordOffer (n m : Name) (i : Identity) (k : OfferKind) (p : Entry) (s : State) :
    (s.recordOffer n i k p).entry m = s.entry m := rfl

/-- A MOVE's release changes the directory alone, with ALERT.DIRECTORY. -/
theorem State.takeMoveRelease_frame {m t : Name} (hc : s.cm.state = .serving) (hb : (s.entry m).state = .bound) :
    s.takeMoveRelease m t = { s with
      dir := (s.takeMoveRelease m t).dir, port := { s.port with alert := s.port.alert ||| 2#7 } } := by
  have halert : s.port.alert ||| 2#7 ||| 2#7 = s.port.alert ||| 2#7 := by rw [BitVec.or_assoc, BitVec.or_self]
  rw [State.takeMoveRelease_of hc hb]
  simp only [State.stableEntry_eq, State.vacate, State.recordOffer, halert]

/-- Settles O39. -/
theorem moveReports : Obligations.MoveReports := by
  unfold Obligations.MoveReports
  intro s m t st ce hmt hce
  refine ⟨fun hc hb => ?_, fun h => ?_, fun i prior ho hst => ?_, fun n i r hno => ?_⟩
  · have hclass : s.classEntry (s.entry m).cls = ce := State.classEntry_eq hce
    have hentry : ∀ n, (s.takeMoveRelease m t).entry n =
        if t = n then { (offeredByMove ce t (s.entry m)) with gen := (s.entry t).gen + 2 }
        else if m = n then { state := .vacant, gen := (s.entry m).gen + 2 } else s.entry n := fun n => by
      rw [State.takeMoveRelease_of hc hb, hclass, State.entry_recordOffer, State.entry_stableEntry, State.entry_vacate,
        State.entry_vacate, if_neg hmt, genAfter_eq, genAfter_eq]
      rfl
    refine ⟨(s.takeMoveRelease m t).dir, ?_, ?_, ?_, fun n hnm hnt => ?_, ?_, ?_⟩
    · have hframe := State.takeMoveRelease_frame (s := s.take (.moveReleaseReport m t)) (t := t) hc hb
      have hdir : ((s.take (.moveReleaseReport m t)).takeMoveRelease m t).dir = (s.takeMoveRelease m t).dir := by
        rw [State.takeMoveRelease_of hc hb, State.takeMoveRelease_of (s := s.take _) hc hb]
        rfl
      rw [hdir] at hframe
      exact congrArg Host.Outcome.next hframe
    · exact (hentry m).trans (by rw [if_neg (Ne.symm hmt), if_pos rfl])
    · exact (hentry t).trans (if_pos rfl)
    · exact (hentry n).trans (by rw [if_neg (Ne.symm hnt), if_neg (Ne.symm hnm)])
    · rw [State.takeMoveRelease_of hc hb]; rfl
    · rw [State.takeMoveRelease_of hc hb]; rfl
  · exact congrArg Host.Outcome.next (if_neg fun ⟨h1, h2⟩ => h.elim (· h1) (· h2))
  · have hstands : Offer.stands ⟨t, i, .move, prior⟩ (s.entry t) = true := Offer.stands_of (fun _ => hst) (by simp)
    have htake : ∀ c, (s.take c).dir.offer = some ⟨t, i, .move, prior⟩ := fun _ => ho
    refine ⟨?_, fun hn => ?_, fun hn => ?_⟩
    · rw [exec_moveOutcomeReport, State.settled_stable (s := s.take _) (htake _) hstands rfl]
      rfl
    · rw [exec_moveOutcomeReport, State.settled_failed (s := s.take _) (htake _) hstands hn rfl]
      rfl
    · rw [exec_moveOutcomeReport, State.settled_disputed (s := s.take _) (htake _) hstands hn]
      rfl
  · rw [exec_moveOutcomeReport, State.takeOutcome_ignored (s := s.take _) hno, State.decideIfJoined_same rfl]
    rfl

/-! ### Roll reports (R90, R91) -/

theorem exec_rollReport (n : Name) (rep : RollReport) (s : State) : exec (.rollReport n rep) s =
    .next ((s.take (.rollReport n rep)).decideIfJoined ((s.take (.rollReport n rep)).takeRollReport n rep)) := rfl

/-- A report that is taken, and changes its entry in one stable change (R90, R91). -/
theorem State.rollReport_stable {n : Name} {rep : RollReport} {e : Entry}
    (h : s.takeRollReport n rep = s.stableEntry n e) : s.decideIfJoined (s.takeRollReport n rep) = { s with
      dir := { s.dir with entries := s.dir.entries.set n.val { e with gen := (s.entry n).gen + 2 } n.isLt }
      port := { s.port with alert := s.port.alert ||| 2#7 } } := by
  rw [h, State.stableEntry_eq]
  exact State.decideIfJoined_same rfl

/-- A report that is taken, and changes its entry by live writes. -/
theorem State.rollReport_live {n : Name} {rep : RollReport} {w : Word} {a b : Nat}
    (h : s.takeRollReport n rep = s.liveEntry n w a b) : s.decideIfJoined (s.takeRollReport n rep) = { s with
      dir := { s.dir with
        entries := s.dir.entries.set n.val { s.entry n with stamp := w, strikes := a, keep := b } n.isLt } } := by
  rw [h]
  exact State.decideIfJoined_same rfl

/-- An entry freed, with a grant decided for its name (R50, R76). -/
theorem State.decideIfJoined_vacateOwed {n : Name} (hn : n ∉ s.line.releases) :
    s.decideIfJoined (s.vacateOwed n) = State.decideGrant { s with
      line := { s.line with releases := insertName n s.line.releases }
      dir := { s.dir with
        entries := s.dir.entries.set n.val { state := .vacant, owed := true, gen := (s.entry n).gen + 2 } n.isLt }
      port := { s.port with alert := s.port.alert ||| 2#7 } } := by
  rw [State.vacateOwed_eq, State.decideIfJoined_joined hn rfl]

/-- An entry disputed, with a grant decided for its name (R50, R87). -/
theorem State.decideIfJoined_disputeEntry {n : Name} (hn : n ∉ s.line.releases) :
    s.decideIfJoined (s.disputeEntry n) = State.decideGrant { s with
      line := { s.line with releases := insertName n s.line.releases }
      dir := { s.dir with entries := s.dir.entries.set n.val { s.entry n with
        gen := (s.entry n).gen + 2, state := .disputed, conflict := true, owed := true, strikes := 0, keep := 0 } n.isLt }
      port := { s.port with alert := s.port.alert ||| 2#7 }
      given := s.given ++ [.passWantedNotice .dispute] } := by
  rw [State.disputeEntry_given_eq, State.decideIfJoined_joined hn rfl]

/-- A report is taken in SERVING and up to the coupling-lost notice, for an entry in a state it fits (R90, R129). -/
theorem State.takeRollReport_of_fits (ht : s.cm.state = .serving ∨ s.dir.serving = true) {n : Name} {rep : RollReport}
    (hf : rollReportFits rep (s.entry n).state = true) : s.takeRollReport n rep = match (generalizing := false) rep with
      | .answered st rd =>
        if st = (s.entry n).devstat then s.liveEntry n rd 0 (s.entry n).keep
        else s.stableEntry n { s.entry n with devstat := st, stamp := rd, strikes := 0 }
      | .strike k => s.liveEntry n (s.entry n).stamp k (s.entry n).keep
      | .struckOut => s.stableEntry n { s.entry n with state := .stale, strikes := 0, keep := s.roll.keepRounds }
      | .revived st rd => s.stableEntry n { s.entry n with
          state := .bound, devstat := st, stamp := rd, strikes := 0, keep := 0 }
      | .retentionStep k => s.liveEntry n (s.entry n).stamp (s.entry n).strikes k
      | .dispute => s.disputeEntry n
      | .retentionExpired => s.depart n := if_pos ⟨s.takesRollReports_iff.2 ht, hf⟩

/-- The states a report is not for. -/
theorem rollReportFits_eq_false {rep : RollReport} {st : EntryState}
    (h : (rep ≠ .dispute ∧ st = .stale ∧ ((∃ a b, rep = .answered a b) ∨ (∃ k, rep = .strike k) ∨ rep = .struckOut)) ∨
      ((st = .bound ∨ st = .held) ∧
        ((∃ a b, rep = .revived a b) ∨ (∃ k, rep = .retentionStep k) ∨ rep = .retentionExpired)) ∨
      st = .vacant ∨ st = .offered ∨ st = .disputed ∨ st = .retiring) : rollReportFits rep st = false := by
  rcases h with ⟨-, rfl, ⟨a, b, rfl⟩ | ⟨k, rfl⟩ | rfl⟩ | ⟨rfl | rfl, ⟨a, b, rfl⟩ | ⟨k, rfl⟩ | rfl⟩ | rfl | rfl | rfl | rfl
  iterate 9 rfl
  all_goals cases rep <;> rfl

/-- Settles O40: report by report. -/
theorem rollReports : Obligations.RollReports := by
  unfold Obligations.RollReports
  intro s n e he hn live stable hlive hstable disputed hdisputed
  subst he
  refine ⟨fun ht => ⟨fun hs => ⟨fun st rd => ?_, fun k => ?_, ?_⟩, fun hs => ⟨fun st rd => ?_, fun k => ?_, fun hm => ?_,
    fun hm => ?_⟩, fun hs => ?_⟩, fun rep h => ?_⟩
  on_goal 9 =>
    rw [exec_rollReport, State.takeRollReport_of_ignored, State.decideIfJoined_same rfl]
    · rfl
    · rintro ⟨h1, h2⟩
      rcases h with ⟨h, h'⟩ | h
      · have h1 : s.cm.state = .serving ∨ s.dir.serving = true := (State.takesRollReports_iff _).1 h1
        rw [h'] at h1
        exact h1.elim h (by simp)
      · exact absurd (h2.symm.trans (rollReportFits_eq_false h)) (by simp)
  all_goals rw [exec_rollReport]
  · have ht := State.takeRollReport_of_fits (s := s.take (.rollReport n (.answered st rd))) (n := n)
      (rep := .answered st rd) ht (decide_eq_true hs)
    split
    · rename_i hst
      rw [State.rollReport_live (ht.trans (if_pos hst)), hlive]
      rfl
    · rename_i hst
      rw [State.rollReport_stable (ht.trans (if_neg hst)), hstable, hlive]
      rfl
  · rw [State.rollReport_live (State.takeRollReport_of_fits (s := s.take _) (rep := .strike k) ht (decide_eq_true hs)), hlive]
    rfl
  · rw [State.rollReport_stable (State.takeRollReport_of_fits (s := s.take _) (rep := .struckOut) ht (decide_eq_true hs)),
      hstable, hlive]
    rfl
  · rw [State.rollReport_stable (State.takeRollReport_of_fits (s := s.take _) (rep := .revived st rd) ht (decide_eq_true hs)),
      hstable, hlive]
    rfl
  · rw [State.rollReport_live (State.takeRollReport_of_fits (s := s.take _) (rep := .retentionStep k) ht (decide_eq_true hs)), hlive]
    rfl
  · rw [State.rollReport_stable ((State.takeRollReport_of_fits (s := s.take _) (rep := .retentionExpired) ht
      (decide_eq_true hs)).trans (State.depart_retiring hm)), hstable, hlive]
    rfl
  · rw [State.takeRollReport_of_fits (s := s.take _) (rep := .retentionExpired) ht (decide_eq_true hs), hstable, hlive]
    dsimp only
    rw [State.depart_vacant (s := s.take _) hm, State.decideIfJoined_vacateOwed (s := s.take _) hn]
    rfl
  · rw [State.takeRollReport_of_fits (s := s.take _) (rep := .dispute) ht (decide_eq_true hs), hstable, hlive, hdisputed]
    dsimp only
    rw [State.decideIfJoined_disputeEntry (s := s.take _) hn]
    rfl

/-! ### Entries resolved (R77, R94, R95) -/

/-- The entries of the directory as a function of the name. -/
theorem State.entries_eq_ofFn_iff (e : Name → Entry) : Vector.ofFn e = s.dir.entries ↔ ∀ n, e n = s.entry n := by
  refine ⟨fun h n => ?_, fun h => ?_⟩
  · have hn : (Vector.ofFn e)[n] = s.entry n := by rw [h]; rfl
    rw [← hn]
    exact (Vector.getElem_ofFn (f := e) n.isLt).symm
  · ext i hi
    rw [Vector.getElem_ofFn]
    exact h ⟨i, hi⟩

theorem State.set_entry_eq_iff (n : Name) (e : Entry) : s.dir.entries.set n.val e n.isLt = s.dir.entries ↔ e = s.entry n := by
  refine ⟨fun h => ?_, fun h => ?_⟩
  · have hn : (s.dir.entries.set n.val e n.isLt)[n.val] = s.dir.entries[n.val] := by simp only [h]
    rw [Vector.getElem_set_self] at hn
    exact hn
  · subst h
    exact congrArg (fun t : State => t.dir.entries) (s.entryNow_same n)

/-- Settles O41. -/
theorem entriesResolved : Obligations.EntriesResolved := by
  unfold Obligations.EntriesResolved
  intro s why freed cleared lost after hfreed hcleared hlost hafter
  have hclear : ∀ e, ClearsEntry s.dir.ackMask.conflict s.roll.keepRounds e (cleared e) := fun e => by
    obtain ⟨h1, h2, h3, h4⟩ := hcleared e
    exact ⟨h1, fun hs hm => (h2 hs).trans ((hfreed e).1 hm), fun hs hm => (h2 hs).trans ((hfreed e).2 hm), h3, h4⟩
  have hlostEntry : ∀ n e, (couplingLostEntry s.roll.keepRounds s.dir.ackMask s.dir.offer n e = none ∧ lost n e = e) ∨
      ∃ d, couplingLostEntry s.roll.keepRounds s.dir.ackMask s.dir.offer n e = some d ∧
        lost n e = { d with gen := e.gen + 2 } := fun n e => by
    obtain ⟨h1, h2, h3⟩ := hlost n e
    unfold couplingLostEntry
    split
    · rename_i hs
      refine .inr ⟨_, rfl, ?_⟩
      unfold restoredOffer
      split
      · rename_i o ho
        split
        · rename_i hn; exact h2 o hs ho hn
        · rename_i hn
          exact h3 hs fun o' ho' => by
            obtain rfl := Option.some.inj (ho.symm.trans ho')
            exact hn
      · rename_i ho
        exact h3 hs fun o' ho' => by rw [ho] at ho'; cases ho'
    · rename_i hs
      rw [h1 hs]
      exact (hclear e).lineClearEntry
  refine ⟨fun n e u he h1 h2 h3 => ?_, ?_, fun t ht => ?_⟩
  · subst he
    refine congrArg Host.Outcome.next ?_
    rw [hafter, State.takeReleaseSent_eq (s := s.take (.directoryReleaseSent n)) (e' := u) h1
      (fun hs hm => (h2 hs).trans ((hfreed _).1 hm)) (fun hs hm => (h2 hs).trans ((hfreed _).2 hm)) h3]
    simp only [State.set_entry_eq_iff]
    rfl
  · refine congrArg Host.Outcome.next ?_
    rw [hafter, State.directoryLineClear_eq (s := s.take .directoryLineClearSent) hclear]
    simp only [State.entries_eq_ofFn_iff]
    rfl
  · rw [ht, hafter]
    refine congrArg Host.Outcome.next ?_
    rw [State.directoryLoss_take]
    unfold State.directoryLoss
    have hall := State.stableAll_eq_ofFn (e := fun n => lost n (s.entry n)) fun n => hlostEntry n (s.entry n)
    have hentry : ∀ n, (s.stableAll fun n e =>
        couplingLostEntry s.roll.keepRounds s.dir.ackMask s.dir.offer n e).entry n = lost n (s.entry n) := fun n => by
      rw [hall, State.entry_eq]
      exact Vector.getElem_ofFn (f := fun n => lost n (s.entry n)) n.isLt
    simp only [hentry]
    rw [hall]
    simp only [State.entries_eq_ofFn_iff]
    generalize Vector.ofFn (fun n => lost n (s.entry n)) = v
    generalize (if ∀ n : Name, lost n (s.entry n) = s.entry n then _ else _) = a
    rfl

/-! ### Acknowledgement (R79, R137) -/

theorem State.writeSeen_of_run (h : s.port.run = true) (n : Name) (v : Word) : s.writeSeen n v =
    State.decideIfJoined { s with port := { s.port with seen := s.port.seen.set n.val v n.isLt } }
      (State.acknowledge n v { s with port := { s.port with seen := s.port.seen.set n.val v n.isLt } }) := if_pos h

/-- An acknowledgement that finds nothing to acknowledge (R79). -/
theorem State.acknowledge_ignored {n : Name} {v : Word}
    (h : v ≠ (s.entry n).gen ∨ ((s.entry n).state ≠ .held ∧ (s.entry n).state ≠ .retiring)) : s.acknowledge n v = s := by
  unfold State.acknowledge; dsimp only
  split
  · rename_i hv
    obtain ⟨h1, h2⟩ := h.resolve_left fun h => h hv
    split
    · contradiction
    · contradiction
    · rfl
  · rfl

theorem State.acknowledge_held {n : Name} {v : Word} (hv : v = (s.entry n).gen) (hs : (s.entry n).state = .held) :
    s.acknowledge n v = s.stableEntry n { s.entry n with state := .bound } := by
  unfold State.acknowledge
  simp only [hv, hs, if_true]

theorem State.acknowledge_retiring {n : Name} {v : Word} (hv : v = (s.entry n).gen) (hs : (s.entry n).state = .retiring) :
    s.acknowledge n v = s.vacateOwed n := by
  unfold State.acknowledge
  simp only [hv, hs, if_true]

/-- Settles O42. -/
theorem acknowledgement : Obligations.Acknowledgement := by
  unfold Obligations.Acknowledgement
  intro s n v stored hstored
  have hexec : s.port.run = true → exec (.acknowledgement n v) s = .next (stored.decideIfJoined (stored.acknowledge n v)) :=
    fun hr => by rw [exec_acknowledgement, State.writeSeen_of_run hr, hstored]
  have hentry : stored.entry n = s.entry n := by rw [hstored]; rfl
  refine ⟨fun hr hv hs => ?_, fun hr hv hs hn => ?_, fun h => ?_⟩
  · rw [hexec hr, State.acknowledge_held (hv.trans (by rw [hentry])) (by rw [hentry]; exact hs), State.stableEntry_eq,
      hentry]
    refine congrArg Host.Outcome.next ((State.decideIfJoined_same rfl).trans ?_)
    subst hstored
    rfl
  · have hrel : n ∉ stored.line.releases := by rw [hstored]; exact hn
    rw [hexec hr, State.acknowledge_retiring (hv.trans (by rw [hentry])) (by rw [hentry]; exact hs),
      State.decideIfJoined_vacateOwed hrel, hentry]
    subst hstored
    rfl
  · by_cases hr : s.port.run = true
    · rw [hexec hr, State.acknowledge_ignored, State.decideIfJoined_same rfl]
      rw [hentry]
      exact h.resolve_left (by simp [hr])
    · rw [exec_acknowledgement, hstored]
      exact congrArg Host.Outcome.next (if_neg hr)

end Sys2Proof.Machine
end

section
/-! PROOFS. Roll rounds (chapter 7) and the request board (chapter 9): posts, what they wait for, and what ends them. -/

namespace Sys2Proof.Machine

variable {s u : State}

/-! ### Roll rounds (R121 to R124) -/

theorem State.dueNames_eq : s.dueNames = (List.finRange 62).filter fun n => decide ((s.entry n).state = .bound ∨
    (s.entry n).state = .held ∨ (s.entry n).state = .stale) := by
  simp only [State.dueNames, EntryState.rolled_eq]
  rfl

/-- A round ends with no round owed (R124). -/
theorem State.endRound_unowed (ho : s.roll.owed = false) : s.endRound = { s with
    roll := { s.roll with inProgress := false }, given := s.given ++ [.roundEndNotice] } :=
  if_neg (by simp [State.closeRound, State.give, ho])

/-- A round ends and the owed round begins over the names due (R122, R124). -/
theorem State.endRound_owed (ho : s.roll.owed = true) {names : List Name} (hn : s.dueNames = names) (hne : names ≠ []) :
    s.endRound = { s with
      roll := { s.roll with round := s.roll.round + 1, due := names, inProgress := true, owed := false }
      given := s.given ++ [.roundEndNotice] } := by
  subst hn
  exact (if_pos ho).trans (if_neg hne)

/-- An owed round with no name due ends at once (R122). -/
theorem State.endRound_owed_empty (ho : s.roll.owed = true) (hn : s.dueNames = []) : s.endRound = { s with
    roll := { s.roll with round := s.roll.round + 1, due := [], inProgress := false, owed := false }
    given := s.given ++ [.roundEndNotice, .roundEndNotice] } := by
  have hclose : s.endRound = _ := (if_pos ho).trans (if_pos hn)
  have hdue : ∀ r g, State.dueNames { s with roll := r, given := g } = [] := fun _ _ => hn
  rw [hclose]
  simp only [State.closeRound, State.openRound, State.give, List.append_assoc, List.cons_append, List.nil_append, hdue]

theorem exec_rollPeriodExpiry (ht : s.roll.timer ≠ none) : exec .rollPeriodExpiry s = .next s.rollExpiry :=
  congrArg Host.Outcome.next (if_pos (Option.isSome_iff_ne_none.2 ht))

/-- Settles O43. -/
theorem rollRounds : Obligations.RollRounds := by
  unfold Obligations.RollRounds
  intro s why names hnames
  have hdue : s.dueNames = names := by rw [State.dueNames_eq, hnames]
  have hopen : ∀ r : RollCaller, State.openRound { s with roll := r } =
      { s with roll := { r with round := r.round + 1, due := names, inProgress := true } } := fun r => by
    rw [← hdue]; rfl
  refine ⟨fun hc ht => ?_, fun h => ?_, fun ht hp => ?_, fun ht hp hne => ?_, fun ht hp he ho => ?_,
    State.endRound_unowed, fun ho hne => State.endRound_owed ho hdue hne,
    fun ho he => State.endRound_owed_empty ho (hdue.trans he), rfl⟩
  · refine congrArg Host.Outcome.next (if_pos ?_)
    simp [State.rollMayStart, State.take, hc, ht]
  · refine congrArg Host.Outcome.next (if_neg fun hm => ?_)
    obtain ⟨hc, ht⟩ := Bool.and_eq_true_iff.1 hm
    exact h.elim (· (of_decide_eq_true hc)) (· (Option.isNone_iff_eq_none.1 ht))
  · rw [exec_rollPeriodExpiry ht]
    exact congrArg Host.Outcome.next (if_pos hp)
  · have hnot : ¬ (s.roll.inProgress = true) := by simp [hp]
    rw [exec_rollPeriodExpiry ht]
    refine congrArg Host.Outcome.next ((if_neg hnot).trans ?_)
    have hbegin : State.beginRound { s with roll := { s.roll with timer := some s.roll.rollMs } } = { s with
        roll := { s.roll with
          timer := some s.roll.rollMs, round := s.roll.round + 1, due := names, inProgress := true } } := by
      unfold State.beginRound
      rw [hopen]
      exact if_neg hne
    rw [hbegin]
    exact if_neg hne
  · have hnot : ¬ (s.roll.inProgress = true) := by simp [hp]
    rw [exec_rollPeriodExpiry ht]
    refine congrArg Host.Outcome.next ((if_neg hnot).trans ?_)
    have hbegin : State.beginRound { s with roll := { s.roll with timer := some s.roll.rollMs } } = { s with
        roll := { s.roll with
          timer := some s.roll.rollMs, round := s.roll.round + 1, due := [], inProgress := false }
        given := s.given ++ [.roundEndNotice] } := by
      unfold State.beginRound
      rw [hopen, he]
      refine (if_pos rfl).trans ?_
      exact State.endRound_unowed ho
    rw [hbegin]
    exact if_pos rfl

/-! ### Posts (R134, R145) -/

/-- The stored ASK word keeps its intent and ticket: the bits above them are unused. -/
theorem askWord_masked {i : Nat} (hi : i ≤ 3) (ticket : Byte) :
    askWord i ticket &&& 0x03FF#16 = BitVec.ofNat 16 (256 * i + ticket.toNat) := by
  have ht := ticket.isLt
  apply BitVec.eq_of_toNat_eq
  have hmask : (0x03FF#16).toNat = 2 ^ 10 - 1 := rfl
  rw [BitVec.toNat_and, hmask, Nat.and_two_pow_sub_one_eq_mod]
  simp only [askWord, BitVec.toNat_ofNat]
  omega

theorem State.storeAsk_eq {i : Nat} (hi : i ≤ 3) (k : SlotNo) (ticket : Byte) (s : State) :
    s.storeAsk k (askWord i ticket) =
      s.putSlot k { s.slot k with ask := BitVec.ofNat 16 (256 * i + ticket.toNat) } := by
  rw [State.storeAsk, askWord_masked hi]

/-- An accepted post as the slot holds it: the ASK word stored and the ticket shown. -/
def State.posted (k : SlotNo) (ticket : Byte) (s : State) : State :=
  s.putSlot k { s.slot k with ask := BitVec.ofNat 16 (256 + ticket.toNat), ticket := ticket }

theorem State.slot_posted (k : SlotNo) (ticket : Byte) (s : State) : (s.posted k ticket).slot k =
    { s.slot k with ask := BitVec.ofNat 16 (256 + ticket.toNat), ticket := ticket } := by
  rw [State.posted, State.slot_putSlot, if_pos rfl]

theorem State.putSlot_putSlot (k : SlotNo) (c d : Slot) (s : State) : (s.putSlot k c).putSlot k d = s.putSlot k d := by
  simp only [State.putSlot, Vector.set_set]

theorem State.entry_posted (k : SlotNo) (ticket : Byte) (n : Name) (s : State) :
    (s.posted k ticket).entry n = s.entry n := rfl

/-- The three tests of R145 for a post of slot k. -/
structure Accepted (s : State) (k : SlotNo) (ticket : Byte) : Prop where
  nonzero : ticket ≠ 0
  fresh : ticket ≠ (s.slot k).ticket
  idle : (s.slot k).phase = .free ∨ (s.slot k).phase = .done

theorem State.post_accepted {k : SlotNo} {ticket : Byte} (h : Accepted s k ticket) :
    s.post k ticket = (s.posted k ticket).judgeAccepted k := by
  unfold State.post
  rw [State.storeAsk_eq (by omega)]
  have hacc : ((s.putSlot k { s.slot k with ask := BitVec.ofNat 16 (256 * 1 + ticket.toNat) }).slot k).accepts ticket =
      true := by
    rw [State.slot_putSlot, if_pos rfl]
    exact decide_eq_true ⟨h.nonzero, h.fresh, h.idle⟩
  rw [if_pos hacc, State.slot_putSlot, if_pos rfl, State.putSlot_putSlot]
  rfl

theorem State.post_refused {k : SlotNo} {ticket : Byte}
    (h : ticket = 0 ∨ ticket = (s.slot k).ticket ∨ (s.slot k).phase = .waiting ∨ (s.slot k).phase = .onLine) :
    s.post k ticket = State.raise .misuse
      (s.putSlot k { s.slot k with ask := BitVec.ofNat 16 (256 + ticket.toNat) }) := by
  unfold State.post
  rw [State.storeAsk_eq (by omega)]
  refine if_neg ?_
  rw [State.slot_putSlot, if_pos rfl]
  simp only [Slot.accepts, decide_eq_true_eq]
  rintro ⟨h1, h2, h3⟩
  rcases h with h | h | h | h
  · exact h1 h
  · exact h2 h
  · rw [h] at h3; exact h3.elim (by simp) (by simp)
  · rw [h] at h3; exact h3.elim (by simp) (by simp)

/-- The end of a posted request, whatever else its event changed (R151). -/
theorem State.completeRequest_of_req {k : SlotNo} {ticket : Byte} (h : u.req = (s.posted k ticket).req)
    (r : Result) (ws : List Word) : u.completeRequest k r ws = { u with
      req := { s.req with
        slots := s.req.slots.set k.val { s.slot k with
          ask := BitVec.ofNat 16 (256 + ticket.toNat), ticket := ticket, phase := .done, result := r
          data := writeData ws (s.slot k).data, latched := none, wait := none } k.isLt
        postOrder := s.req.postOrder.filter (fun j => j ≠ k) }
      port := { u.port with alert := u.port.alert ||| 4#7 } } := by
  have hslot : u.slot k = (s.posted k ticket).slot k := State.slot_congr (congrArg RequestUnit.slots h) k
  rw [State.completeRequest_eq, hslot, State.slot_posted, h]
  simp only [State.posted, State.putSlot, Vector.set_set, Slot.ended]

/-- The end of a posted request with no words to write. -/
theorem State.completeRequest_posted (k : SlotNo) (ticket : Byte) (r : Result) (s : State) :
    (s.posted k ticket).completeRequest k r [] = { s with
      req := { s.req with
        slots := s.req.slots.set k.val { s.slot k with
          ask := BitVec.ofNat 16 (256 + ticket.toNat), ticket := ticket, phase := .done, result := r
          latched := none, wait := none } k.isLt
        postOrder := s.req.postOrder.filter (fun j => j ≠ k) }
      port := { s.port with alert := s.port.alert ||| 4#7 } } := by
  rw [State.completeRequest_of_req rfl, writeData_nil]
  rfl

/-! ### The form check (R144, R146) -/

theorem nameOfNum_name (n : Name) : nameOfNum (n.val + 1) = some n := by
  have hn := n.isLt
  simp [nameOfNum, Nat.succ_le_of_lt hn]

theorem nameOfNum_eq_none {k : Nat} (h : k = 0 ∨ 63 ≤ k) : nameOfNum k = none := dif_neg (by omega)

theorem countFits_iff (w : Word) : countFits w = true ↔ 1 ≤ w.toNat ∧ w.toNat ≤ 16 := decide_eq_true_iff

theorem kindOf_eq_none {b : Byte} (h : b = 0 ∨ 11 ≤ b.toNat) : kindOf b = none := by
  obtain rfl | h := h
  · rfl
  · unfold kindOf
    split
    iterate 10 omega
    rfl

section
variable {c : Slot}

theorem Slot.request_of_unknown (h : kindOf c.kind = none) : c.request = none := by
  unfold Slot.request; rw [h]

theorem Slot.request_read (h : c.kind = 1) : c.request = match nameOfNum c.name.toNat with
    | some n => if countFits c.count then some (.line (.read n c.argA c.count.toNat)) else none
    | none => none := by
  unfold Slot.request; rw [h]; rfl

theorem Slot.request_write (h : c.kind = 2) : c.request = match nameOfNum c.name.toNat with
    | some n => if countFits c.count then some (.line (.write n c.argA (c.data.toList.take c.count.toNat))) else none
    | none => none := by
  unfold Slot.request; rw [h]; rfl

theorem Slot.request_move (h : c.kind = 3) : c.request = match nameOfNum c.name.toNat, nameOfNum c.argA.toNat with
    | some n, some m => some (.line (.move n m))
    | _, _ => none := by
  unfold Slot.request; rw [h]; rfl

theorem Slot.request_forget (h : c.kind = 4) : c.request = match nameOfNum c.name.toNat with
    | some n => some (.forget n)
    | none => none := by
  unfold Slot.request; rw [h]; rfl

theorem Slot.request_search (h : c.kind = 5) : c.request = some .search := by unfold Slot.request; rw [h]; rfl
theorem Slot.request_reseat (h : c.kind = 6) : c.request = some (.line .reseat) := by unfold Slot.request; rw [h]; rfl
theorem Slot.request_retime (h : c.kind = 7) : c.request = some .retime := by unfold Slot.request; rw [h]; rfl
theorem Slot.request_limits (h : c.kind = 8) : c.request = some .limits := by unfold Slot.request; rw [h]; rfl
theorem Slot.request_drive (h : c.kind = 9) : c.request = some .drive := by unfold Slot.request; rw [h]; rfl
theorem Slot.request_rearm (h : c.kind = 10) : c.request = some .rearm := by unfold Slot.request; rw [h]; rfl

/-- What the form check refuses (R146 check 2, R163). -/
theorem Slot.request_eq_none (h : c.kind = 0 ∨ 11 ≤ c.kind.toNat ∨
    ((c.kind = 1 ∨ c.kind = 2) ∧ (c.count = 0 ∨ 17 ≤ c.count.toNat)) ∨
    ((c.kind = 1 ∨ c.kind = 2 ∨ c.kind = 3 ∨ c.kind = 4) ∧ (c.name = 0 ∨ 63 ≤ c.name.toNat)) ∨
    (c.kind = 3 ∧ (c.argA = 0 ∨ 63 ≤ c.argA.toNat))) : c.request = none := by
  have hname : c.name = 0 ∨ 63 ≤ c.name.toNat → nameOfNum c.name.toNat = none := fun h =>
    nameOfNum_eq_none (h.imp (fun h => by rw [h]; rfl) id)
  rcases h with h | h | ⟨h, hc⟩ | ⟨h, hn⟩ | ⟨h, ha⟩
  · exact Slot.request_of_unknown (kindOf_eq_none (.inl h))
  · exact Slot.request_of_unknown (kindOf_eq_none (.inr h))
  · have hcount : ¬ countFits c.count = true := by
      rw [countFits_iff]
      obtain hc | hc := hc
      · rw [hc]; simp
      · omega
    rcases h with h | h
    · rw [Slot.request_read h]
      cases nameOfNum c.name.toNat with
      | none => rfl
      | some n => exact if_neg hcount
    · rw [Slot.request_write h]
      cases nameOfNum c.name.toNat with
      | none => rfl
      | some n => exact if_neg hcount
  · rcases h with h | h | h | h
    · rw [Slot.request_read h, hname hn]
    · rw [Slot.request_write h, hname hn]
    · rw [Slot.request_move h, hname hn]
    · rw [Slot.request_forget h, hname hn]
  · rw [Slot.request_move h, nameOfNum_eq_none (ha.imp (fun h => by rw [h]; rfl) id)]
    cases nameOfNum c.name.toNat <;> rfl

end

/-- A post that passes the form check in RUN (R146). -/
theorem State.post_judged {k : SlotNo} {ticket : Byte} {q : Request} (h : Accepted s k ticket) (hr : s.port.run = true)
    (hq : (s.slot k).request = some q) : s.post k ticket = (s.posted k ticket).judgeRequest k q := by
  have hq' : ((s.posted k ticket).slot k).request = some q := by rw [State.slot_posted]; exact hq
  rw [State.post_accepted h]
  unfold State.judgeAccepted
  refine (if_pos hr).trans ?_
  rw [hq']

/-- Settles O44. -/
theorem postsJudged : Obligations.PostsJudged := by
  unfold Obligations.PostsJudged
  intro s k ticket t ht
  subst ht
  refine ⟨fun three => ?_, fun c hc ended hended => ⟨fun h => ?_, fun h1 h2 h3 => ⟨fun hr => ?_, fun hr hbad => ?_⟩⟩⟩
  · have hthree : 256 * (if three then 3 else 0) = if three then 768 else 0 := by cases three <;> rfl
    have hbad : s.badAsk k (if three then 3 else 0) ticket = State.raise .misuse
        (s.storeAsk k (askWord (if three then 3 else 0) ticket)) := rfl
    refine congrArg Host.Outcome.next (hbad.trans ?_)
    rw [State.storeAsk_eq (by cases three <;> simp), hthree]
    rfl
  · rw [exec_post hc, State.post_refused h]
    rfl
  · rw [exec_post hc, State.post_accepted ⟨h1, h2, h3⟩, hended, ← State.completeRequest_posted]
    exact congrArg Host.Outcome.next (if_neg (show ¬ s.port.run = true by simp [hr]))
  · rw [exec_post hc, State.post_accepted ⟨h1, h2, h3⟩, hended, ← State.completeRequest_posted]
    have hreq : ((s.posted k ticket).slot k).request = none := by
      rw [State.slot_posted]; exact Slot.request_eq_none hbad
    refine congrArg Host.Outcome.next ((if_pos hr).trans ?_)
    rw [hreq]

/-! ### READ, WRITE and MOVE (R146, R147) -/

/-- A posted request that waits for the line (R147). -/
theorem State.waitForLine_posted (k : SlotNo) (ticket : Byte) (q : LineRequest) (s : State) :
    (s.posted k ticket).waitForLine k q = { s with
      req := { s.req with
        slots := s.req.slots.set k.val { s.slot k with
          ask := BitVec.ofNat 16 (256 + ticket.toNat), ticket := ticket, phase := .waiting, result := .ok
          latched := some q, wait := some s.req.waitMs } k.isLt
        postOrder := s.req.postOrder ++ [k] } } := by
  rw [State.waitForLine_eq, State.slot_posted]
  simp only [State.posted, State.putSlot, Vector.set_set]

theorem State.judgeLine_refused {r : Result} {q : LineRequest} (hc : s.cm.state = .serving)
    (h : s.entryCheck q = some r) (k : SlotNo) : s.judgeLine k q = s.completeRequest k r [] := by
  unfold State.judgeLine; simp only [hc, h]

theorem State.judgeLine_passed {q : LineRequest} (hc : s.cm.state = .serving) (h : s.entryCheck q = none) (k : SlotNo) :
    s.judgeLine k q = (s.waitForLine k q).decideGrant := by
  unfold State.judgeLine; simp only [hc, h]

theorem State.judgeLine_discovering (hc : s.cm.state = .discovering) (k : SlotNo) (q : LineRequest) :
    s.judgeLine k q = (s.waitForLine k q).decideGrant := by
  unfold State.judgeLine; rw [hc]

theorem State.judgeLine_uncoupled (h1 : s.cm.state ≠ .discovering) (h2 : s.cm.state ≠ .serving) (k : SlotNo)
    (q : LineRequest) : s.judgeLine k q = s.completeRequest k .notCoupled [] := by
  unfold State.judgeLine
  split
  · contradiction
  · contradiction
  · rfl

theorem State.entryCheck_refused {q : LineRequest} {n : Name} {c : Call} {r : Result} (hc : opensWith q n c)
    (h : entryRefusal (s.entry n).state = some r) : s.entryCheck q = some r := by
  rw [State.entryCheck_of_opensWith hc, h]

/-- A MOVE of a BOUND entry is checked for its target (R146 check 5). -/
theorem State.entryCheck_bound {q : LineRequest} {n : Name} {c : Call} (hc : opensWith q n c)
    (h : (s.entry n).state = .bound) :
    s.entryCheck q = if ∀ m, q = .move n m → (s.entry m).isFree = true then none else some .nameTaken := by
  rw [State.entryCheck_of_opensWith hc, h]
  rfl

/-- Settles O45. -/
theorem lineRequestsWait : Obligations.LineRequestsWait := by
  unfold Obligations.LineRequestsWait
  intro s k ticket t n m q c ht hr h1 h2 h3 hname hkind shown hshown waits hwaits ended hended
  subst ht
  obtain ⟨hc, hreq, ⟨call, hopens⟩, hmove⟩ : c ∈ postsOf k ticket ∧ (s.slot k).request = some (.line q) ∧
      (∃ call, opensWith q n call) ∧ ∀ a b, q = .move a b → b = m := by
    rcases hkind with ⟨hk, hlo, hhi, rfl, rfl⟩ | ⟨hk, hlo, hhi, rfl, rfl⟩ | ⟨hk, ha, rfl, rfl⟩
    · refine ⟨by simp [postsOf], ?_, ⟨_, .inl ⟨_, _, rfl, rfl⟩⟩, by simp⟩
      rw [Slot.request_read hk, hname, nameOfNum_name]
      exact if_pos ((countFits_iff _).2 ⟨hlo, hhi⟩)
    · refine ⟨by simp [postsOf], ?_, ⟨_, .inr (.inl ⟨_, _, rfl, rfl⟩)⟩, by simp⟩
      rw [Slot.request_write hk, hname, nameOfNum_name]
      exact if_pos ((countFits_iff _).2 ⟨hlo, hhi⟩)
    · refine ⟨by simp [postsOf], ?_, ⟨_, .inr (.inr ⟨_, rfl, rfl⟩)⟩, fun a b h => by cases h; rfl⟩
      rw [Slot.request_move hk, hname, ha, nameOfNum_name, nameOfNum_name]
  have hexec : exec c s = .next ((s.posted k ticket).judgeLine k q) := by
    rw [exec_post hc, State.post_judged ⟨h1, h2, h3⟩ hr hreq]
    rcases hopens with ⟨a, j, rfl, -⟩ | ⟨a, ws, rfl, -⟩ | ⟨b, rfl, -⟩ <;> rfl
  have hwait : ((s.posted k ticket).waitForLine k q).decideGrant = waits := by
    rw [State.waitForLine_posted, hwaits, hshown]
  have hend : ∀ r, (s.posted k ticket).completeRequest k r [] = ended r := fun r => by
    rw [State.completeRequest_posted, hended, hshown]
  have hrefused : ∀ {r}, s.cm.state = .serving → entryRefusal (s.entry n).state = some r → exec c s = .next (ended r) :=
    fun {r} hs he => by
      rw [hexec, State.judgeLine_refused (s := s.posted k ticket) hs
        (State.entryCheck_refused (s := s.posted k ticket) hopens he), hend]
  refine ⟨fun hs => ?_, fun hs => ⟨fun hb => ⟨fun hq => ?_, fun hq hm => ?_⟩, fun hb => ?_, fun hb => ?_, fun hb => ?_⟩,
    fun h1 h2 => ?_⟩
  · rw [hexec, State.judgeLine_discovering (s := s.posted k ticket) hs, hwait]
  · have hcheck : (s.posted k ticket).entryCheck q = none := by
      rw [State.entryCheck_bound (s := s.posted k ticket) hopens hb]
      refine if_pos fun b hb => ?_
      obtain hq | hq := hq
      · exact absurd hb (hq n b)
      · rw [hmove n b hb]; exact (Entry.isFree_iff _).2 hq
    rw [hexec, State.judgeLine_passed (s := s.posted k ticket) hs hcheck, hwait]
  · have hcheck : (s.posted k ticket).entryCheck q = some .nameTaken := by
      rw [State.entryCheck_bound (s := s.posted k ticket) hopens hb]
      refine if_neg fun hfree => ?_
      obtain ⟨hv, ho⟩ := (Entry.isFree_iff _).1 (hfree m hq)
      exact hm.elim (· hv) fun h => Bool.false_ne_true (ho.symm.trans h)
    rw [hexec, State.judgeLine_refused (s := s.posted k ticket) hs hcheck, hend]
  · exact hrefused hs (by rw [hb]; rfl)
  · exact hrefused hs (by rcases hb with h | h <;> rw [h] <;> rfl)
  · exact hrefused hs (by rcases hb with h | h | h <;> rw [h] <;> rfl)
  · rw [hexec, State.judgeLine_uncoupled (s := s.posted k ticket) h1 h2, hend]

end Sys2Proof.Machine
end

section
/-! PROOFS. Requests settled at once, withdrawals and time-outs, and what a loss of the coupling makes of the slots
(chapter 9). -/

namespace Sys2Proof.Machine

variable {s u : State}

/-! ### RESEAT and the notices (R154, R156) -/

theorem exec_posted {k : SlotNo} {ticket : Byte} {c : Instr} {q : Request} (hc : c ∈ postsOf k ticket)
    (h : Accepted s k ticket) (hr : s.port.run = true) (hq : (s.slot k).request = some q) :
    exec c s = .next ((s.posted k ticket).judgeRequest k q) := by
  rw [exec_post hc, State.post_judged h hr hq]

theorem State.judgeReseat_serving (hc : s.cm.state = .serving) (k : SlotNo) : s.judgeReseat k = State.decideGrant { s with
    line := { s.line with clearOwed := true }
    req := { s.req with
      slots := s.req.slots.set k.val { s.slot k with
        phase := .onLine, result := .ok, latched := some .reseat, wait := none } k.isLt } } := if_pos hc

theorem Slot.reseated_of {c : Slot} (h : c.phase = .onLine ∧ c.latched = some .reseat) :
    c.reseated = { c with phase := .done, result := .ok, latched := none, wait := none } :=
  (if_pos h).trans (c.ended_nil _)

theorem Slot.lost_of {c : Slot} (h : c.phase = .waiting ∨ c.phase = .onLine) (r : LossReason) :
    c.lost r = { c with phase := .done, result := lossResult r, latched := none, wait := none } :=
  (if_pos h).trans (c.ended_nil _)

/-- A change of the slots that some slots end by and that leaves the others: the slots it leaves, and ALERT.REQUEST
exactly where one ended. -/
theorem State.endSlots_of {f : Slot → Slot} {ends : Slot → Prop} {r : Result}
    (h1 : ∀ c, ends c → f c = { c with phase := .done, result := r, latched := none, wait := none })
    (h2 : ∀ c, ends c → c.phase ≠ .done) (h3 : ∀ c, ¬ ends c → f c = c) (s : State) :
    ∃ p, s.endSlots f = { s with
        req := { s.req with slots := Vector.ofFn fun k => f (s.slot k) }, port := { s.port with alert := p } } ∧
      ((∃ k, ends (s.slot k)) → p = s.port.alert ||| 4#7) ∧ ((∀ k, ¬ ends (s.slot k)) → p = s.port.alert) := by
  have hchanged : ∀ c, f c ≠ c ↔ ends c := fun c => by
    refine ⟨fun h => by_contra fun hn => h (h3 c hn), fun h he => h2 c h ?_⟩
    rw [← he, h1 c h]
  refine ⟨_, State.endSlots_eq f s, fun ⟨k, hk⟩ => if_pos ?_, fun hno => if_neg ?_⟩
  · exact List.any_eq_true.2 ⟨k, List.mem_finRange k, decide_eq_true ((hchanged _).2 hk)⟩
  · rw [List.any_eq_true]
    rintro ⟨k, -, hk⟩
    exact hno k ((hchanged _).1 (of_decide_eq_true hk))

/-- Settles O46. -/
theorem reseatAndRequestNotices : Obligations.ReseatAndRequestNotices := by
  unfold Obligations.ReseatAndRequestNotices
  refine ⟨fun s k ticket t ht hr h1 h2 h3 hk => ?_, fun s why c r ends hc => ?_, fun s => rfl⟩
  · subst ht
    have hexec : exec (.reseatRequest k ticket) s = .next ((s.posted k ticket).judgeReseat k) :=
      exec_posted (by simp [postsOf]) ⟨h1, h2, h3⟩ hr (Slot.request_reseat hk)
    refine ⟨fun hs => ?_, fun hs => ?_⟩
    · rw [hexec, State.judgeReseat_serving (s := s.posted k ticket) hs, State.slot_posted]
      simp only [State.posted, State.putSlot, Vector.set_set]
    · rw [hexec, ← State.completeRequest_posted]
      exact congrArg Host.Outcome.next (if_neg hs)
  · have hslots : ∀ {f : Slot → Slot}, (∀ c, ends c → f c = { c with phase := .done, result := r, latched := none, wait := none }) →
        (∀ c, ¬ ends c → f c = c) → ∀ k : SlotNo,
          (ends (s.slot k) → (Vector.ofFn fun j : SlotNo => f (s.slot j))[k] = { s.slot k with
            phase := .done, result := r, latched := none, wait := none }) ∧
          (¬ ends (s.slot k) → (Vector.ofFn fun j : SlotNo => f (s.slot j))[k] = s.slot k) := fun {f} h1 h3 k => by
      have hget : (Vector.ofFn fun j : SlotNo => f (s.slot j))[k] = f (s.slot k) :=
        Vector.getElem_ofFn (f := fun j : SlotNo => f (s.slot j)) k.isLt
      rw [hget]
      exact ⟨h1 _, h3 _⟩
    rcases hc with ⟨rfl, rfl, hends⟩ | ⟨rfl, hends, hd, hf, hh⟩
    · have hone : ∀ c, ends c → Slot.reseated c = { c with phase := .done, result := .ok, latched := none, wait := none } :=
        fun c h => Slot.reseated_of ((hends c).1 h)
      have hkeep : ∀ c, ¬ ends c → Slot.reseated c = c := fun c h => if_neg (mt (hends c).2 h)
      obtain ⟨p, hp, halert⟩ := State.endSlots_of hone (fun c h => by rw [((hends c).1 h).1]; simp) hkeep
        (s.take .requestLineClearSent)
      refine ⟨_, p, ?_, hslots hone hkeep, halert⟩
      refine congrArg Host.Outcome.next (hp.trans ?_)
      rw [if_pos rfl, if_pos rfl]
      rfl
    · have hr : lossResult why = r := by
        cases why with
        | decoupled => exact (hd rfl).symm
        | faulted => exact (hf rfl).symm
        | hold => exact (hh rfl).symm
      have hone : ∀ c, ends c → Slot.lost why c = { c with phase := .done, result := r, latched := none, wait := none } :=
        fun c h => by rw [Slot.lost_of ((hends c).1 h), hr]
      have hkeep : ∀ c, ¬ ends c → Slot.lost why c = c := fun c h => if_neg (mt (hends c).2 h)
      obtain ⟨p, hp, halert⟩ := State.endSlots_of hone
        (fun c h => by rcases (hends c).1 h with h | h <;> rw [h] <;> simp) hkeep (s.take (.requestCouplingLost why))
      refine ⟨_, p, ?_, hslots hone hkeep, halert⟩
      have hloss : (s.take (.requestCouplingLost why)).requestLoss why = { (s.take (.requestCouplingLost why)).endSlots (Slot.lost why) with
        req := { ((s.take (.requestCouplingLost why)).endSlots (Slot.lost why)).req with postOrder := [], hand := none } } := rfl
      refine congrArg Host.Outcome.next (hloss.trans ?_)
      rw [hp, if_neg (by simp), if_neg (by simp)]
      rfl

/-! ### FORGET and SEARCH (R92, R112, R155) -/

theorem State.forget_freed {n : Name} (h : (s.entry n).state = .stale ∨ (s.entry n).state = .retiring) :
    s.forget n = s.vacateOwed n ∧ forgetResult (s.entry n).state = .ok := by
  unfold State.forget
  rcases h with h | h <;> rw [h] <;> exact ⟨rfl, rfl⟩

theorem State.forget_refused {n : Name} {r : Result} (h : forgetResult (s.entry n).state = r) (hr : r ≠ .ok) :
    s.forget n = s := by
  unfold State.forget
  rw [h]
  split
  · contradiction
  · rfl

/-- A FORGET that frees nothing (R92). -/
theorem State.judgeForget_refused {n : Name} {k : SlotNo} {ticket : Byte} {r : Result}
    (h : forgetResult (s.entry n).state = r) (hr : r ≠ .ok) :
    (s.posted k ticket).judgeRequest k (.forget n) = (s.posted k ticket).completeRequest k r [] := by
  have hjudge : (s.posted k ticket).judgeRequest k (.forget n) = (s.posted k ticket).decideIfJoined
    (((s.posted k ticket).forget n).completeRequest k (forgetResult ((s.posted k ticket).entry n).state) []) := rfl
  rw [hjudge, State.forget_refused (s := s.posted k ticket) h hr, State.entry_posted, h]
  exact State.decideIfJoined_same rfl

theorem State.judgeForget_freed {n : Name} {k : SlotNo} {ticket : Byte}
    (h : (s.entry n).state = .stale ∨ (s.entry n).state = .retiring) (hn : n ∉ s.line.releases) :
    (s.posted k ticket).judgeRequest k (.forget n) =
      (((s.posted k ticket).vacateOwed n).completeRequest k .ok []).decideGrant := by
  have hjudge : (s.posted k ticket).judgeRequest k (.forget n) = (s.posted k ticket).decideIfJoined
    (((s.posted k ticket).forget n).completeRequest k (forgetResult ((s.posted k ticket).entry n).state) []) := rfl
  obtain ⟨hforget, hres⟩ := State.forget_freed (s := s.posted k ticket) h
  rw [hjudge, hforget, hres]
  refine State.decideIfJoined_joined (s := s.posted k ticket) (n := n) hn ?_
  rw [State.vacateOwed_eq]
  rfl

/-- Settles O47. -/
theorem forgetAndSearch : Obligations.ForgetAndSearch := by
  unfold Obligations.ForgetAndSearch
  intro s k ticket t ht hr h1 h2 h3 ended hended
  subst ht
  have hend : ∀ r, (s.posted k ticket).completeRequest k r [] = ended r := fun r => by
    rw [State.completeRequest_posted, hended]
  refine ⟨fun n hk hname => ?_, fun hk => ?_⟩
  · have hexec : exec (.forgetRequest k ticket) s = .next ((s.posted k ticket).judgeRequest k (.forget n)) := by
      refine exec_posted (by simp [postsOf]) ⟨h1, h2, h3⟩ hr ?_
      rw [Slot.request_forget hk, hname, nameOfNum_name]
    refine ⟨fun hs hn => ?_, fun hs => ?_, fun hs => ?_⟩
    · have hmask : s.port.alert ||| 2#7 ||| 4#7 = s.port.alert ||| 6#7 := by rw [BitVec.or_assoc]; rfl
      rw [hexec, State.judgeForget_freed hs hn, State.completeRequest_of_req (s := s) (ticket := ticket)
        (by rw [State.vacateOwed_eq]), writeData_nil, State.vacateOwed_eq, hended, ← hmask]
      rfl
    · rw [hexec, State.judgeForget_refused (r := .noDevice) (by rw [hs]; rfl) (by simp), hend]
    · rw [hexec, State.judgeForget_refused (r := .wrongState) (by rcases hs with h | h | h | h <;> rw [h] <;> rfl)
        (by simp), hend]
  · have hexec : exec (.searchRequest k ticket) s = .next ((s.posted k ticket).judgeRequest k .search) :=
      exec_posted (by simp [postsOf]) ⟨h1, h2, h3⟩ hr (Slot.request_search hk)
    have hjudge : (s.posted k ticket).judgeRequest k .search =
      State.completeRequest k (s.posted k ticket).doSearch.2 [] (s.posted k ticket).doSearch.1 := rfl
    refine ⟨fun h1 h2 => ?_, fun hc => ?_⟩
    · have hoff : ¬ (s.posted k ticket).cm.state.lineOn = true := by
        rw [Bool.not_eq_true]; exact (CouplingState.lineOn_eq_false_iff _).2 ⟨h1, h2⟩
      have hsearch : (s.posted k ticket).doSearch = (s.posted k ticket, .notCoupled) := if_neg hoff
      rw [hexec, hjudge, hsearch, hend]
    · have hon : (s.posted k ticket).cm.state.lineOn = true := (CouplingState.lineOn_iff _).2 hc
      have hsearch : (s.posted k ticket).doSearch = ((s.posted k ticket).takePassWanted, .ok) := if_pos hon
      rw [hexec, hjudge, hsearch]
      refine ⟨fun hw => ?_, fun hw hclaim => ?_⟩
      · have hnot : s.walker.state ≠ .idle ∧ s.walker.state ≠ .sweepDue := by rcases hw with h | h | h <;> simp [h]
        rw [State.takePassWanted_of_not_ready (s := s.posted k ticket) hnot.1 hnot.2]
        refine congrArg Host.Outcome.next ((State.completeRequest_of_req (s := s) (ticket := ticket) ?_ .ok []).trans ?_)
        · rfl
        · rw [writeData_nil, hended]
          rfl
      · have hnone : (if (s.posted k ticket).walkerInFlight then (s.posted k ticket).walker.claim else none) = none := by
          rw [show (s.posted k ticket).walker.claim = none from hclaim]; exact ite_self none
        rw [State.takePassWanted_of_ready (s := s.posted k ticket) hw, State.startFurther_of_lineOn _ hon,
          State.startPass_kept_claim hnone]
        refine congrArg (fun w => Host.Outcome.next (State.completeRequest k .ok [] (State.decideGrant w))) ?_
        rw [← hclaim]
        rfl

/-! ### RETIME and LIMITS (R32, R130) -/

theorem State.doRetime_echo (a b c d : Word) (s : State) : (s.doRetime a b c d).2 =
    [clampWord 10 10000 a, clampWord 1 15 b, clampWord 1 255 c, clampWord 0 255 d] := rfl

theorem State.doLimits_echo (a b c d e : Word) (s : State) : (s.doLimits a b c d e).2 =
    [clampWord 1 4095 a, clampWord 1 4095 b, clampWord 1 8190 c, clampWord 1 254 d,
      tripBAbove (clampWord 1 254 d) (clampWord 2 255 e)] := rfl

theorem clampWord_eq_of_toNat {lo hi : Nat} (hhi : hi < 65536) (hlo : lo ≤ hi) {v w : Word}
    (h : v.toNat = max lo (min hi w.toNat)) : clampWord lo hi w = v :=
  BitVec.eq_of_toNat_eq ((clampWord_toNat hhi hlo w).trans h.symm)

/-- ALERT.CLAMPED with ALERT.REQUEST. -/
theorem alert_or_if {p : Prop} [Decidable p] (v w x : BitVec 7) :
    (if p then v else v ||| w) ||| x = v ||| x ||| (if p then 0#7 else w) := by
  by_cases h : p
  · rw [if_pos h, if_pos h, BitVec.or_zero]
  · rw [if_neg h, if_neg h, BitVec.or_assoc, BitVec.or_assoc, BitVec.or_comm w x]

theorem word_toNat_eq_zero {w : Word} : w.toNat = 0 ↔ w = 0 :=
  ⟨fun h => BitVec.eq_of_toNat_eq h, fun h => by rw [h]; rfl⟩

theorem Offer.lowered_eq_ite (k : Nat) : Offer.lowered k = fun o => if o.kind = .ret then
    { o with prior := { o.prior with keep := min o.prior.keep k } } else o := by
  funext o
  rw [Offer.lowered_eq]
  by_cases h : o.kind = .ret
  · rw [if_pos h, if_pos h]
  · rw [if_neg h, if_neg h]

theorem State.dataWord_posted (k : SlotNo) (ticket : Byte) (j : Fin 16) (s : State) :
    ((s.posted k ticket).slot k).dataWord j = (s.slot k).data[j] := by
  rw [State.slot_posted]; rfl

/-- Settles O48. -/
theorem retimeAndLimits : Obligations.RetimeAndLimits := by
  unfold Obligations.RetimeAndLimits
  intro s k ticket t a b c d e ht hr h1 h2 h3 echoed hechoed
  subst ht
  refine ⟨fun hk ha hb hc hd => ?_, fun hk ha hb hc hd he => ?_⟩
  · have hexec : exec (.retimeRequest k ticket) s = .next ((s.posted k ticket).judgeRequest k .retime) :=
      exec_posted (by simp [postsOf]) ⟨h1, h2, h3⟩ hr (Slot.request_retime hk)
    obtain ⟨c0, hc0⟩ : ∃ c0, c0 = (s.posted k ticket).slot k := ⟨_, rfl⟩
    have hjudge : (s.posted k ticket).judgeRequest k .retime = State.completeRequest k .ok
      ((s.posted k ticket).doRetime (c0.dataWord 0) (c0.dataWord 1) (c0.dataWord 2) (c0.dataWord 3)).2
      ((s.posted k ticket).doRetime (c0.dataWord 0) (c0.dataWord 1) (c0.dataWord 2) (c0.dataWord 3)).1 := by
      rw [hc0]; rfl
    have hword : ∀ j, c0.dataWord j = (s.slot k).data[j] := fun j => by rw [hc0, State.dataWord_posted]
    have hA : clampWord 10 10000 (c0.dataWord 0) = a := clampWord_eq_of_toNat (by omega) (by omega) (by rw [hword]; exact ha)
    have hB : clampWord 1 15 (c0.dataWord 1) = b := clampWord_eq_of_toNat (by omega) (by omega) (by rw [hword]; exact hb)
    have hC : clampWord 1 255 (c0.dataWord 2) = c := clampWord_eq_of_toNat (by omega) (by omega) (by rw [hword]; exact hc)
    have hD : clampWord 0 255 (c0.dataWord 3) = d := clampWord_eq_of_toNat (by omega) (by omega)
      (by rw [hword, Nat.zero_max]; exact hd)
    rw [hexec, hjudge, State.doRetime_echo, State.doRetime_eq, hA, hB, hC, hD]
    refine congrArg Host.Outcome.next ((State.completeRequest_of_req (s := s) (ticket := ticket) ?_ .ok _).trans ?_)
    · rfl
    · rw [hechoed]
      simp only [alert_or_if, Prod.mk.injEq, hword, Walker.setSweepRounds, word_toNat_eq_zero, Offer.lowered_eq_ite, Entry.lowered,
        writeData, State.entry_posted]
      rfl
  · have hexec : exec (.limitsRequest k ticket) s = .next ((s.posted k ticket).judgeRequest k .limits) :=
      exec_posted (by simp [postsOf]) ⟨h1, h2, h3⟩ hr (Slot.request_limits hk)
    obtain ⟨c0, hc0⟩ : ∃ c0, c0 = (s.posted k ticket).slot k := ⟨_, rfl⟩
    have hjudge : (s.posted k ticket).judgeRequest k .limits = State.completeRequest k .ok
      ((s.posted k ticket).doLimits (c0.dataWord 0) (c0.dataWord 1) (c0.dataWord 2) (c0.dataWord 3) (c0.dataWord 4)).2
      ((s.posted k ticket).doLimits (c0.dataWord 0) (c0.dataWord 1) (c0.dataWord 2) (c0.dataWord 3)
        (c0.dataWord 4)).1 := by
      rw [hc0]; rfl
    have hword : ∀ j, c0.dataWord j = (s.slot k).data[j] := fun j => by rw [hc0, State.dataWord_posted]
    have hA : clampWord 1 4095 (c0.dataWord 0) = a := clampWord_eq_of_toNat (by omega) (by omega) (by rw [hword]; exact ha)
    have hB : clampWord 1 4095 (c0.dataWord 1) = b := clampWord_eq_of_toNat (by omega) (by omega) (by rw [hword]; exact hb)
    have hC : clampWord 1 8190 (c0.dataWord 2) = c := clampWord_eq_of_toNat (by omega) (by omega) (by rw [hword]; exact hc)
    have hD : clampWord 1 254 (c0.dataWord 3) = d := clampWord_eq_of_toNat (by omega) (by omega) (by rw [hword]; exact hd)
    have hE : tripBAbove (clampWord 1 254 (c0.dataWord 3)) (clampWord 2 255 (c0.dataWord 4)) = e := by
      refine BitVec.eq_of_toNat_eq ((clampedTripB_toNat ..).trans ?_)
      rw [hD, hword]
      exact he.symm
    rw [hexec, hjudge, State.doLimits_echo, State.doLimits_eq, hE, hA, hB, hC, hD]
    refine congrArg Host.Outcome.next ((State.completeRequest_of_req (s := s) (ticket := ticket) ?_ .ok _).trans ?_)
    · rfl
    · rw [hechoed]
      simp only [alert_or_if, Prod.mk.injEq, hword, writeData]
      rfl

/-! ### DRIVE and REARM (R17, R33, R34) -/

/-- The change of a feed in the event that ends its request. -/
theorem State.completeRequest_setFeed {k : SlotNo} {ticket : Byte} {f : FeedSupervisor}
    (hf : f.recordFields ≠ s.feed.recordFields) (r : Result) :
    ((s.posted k ticket).setFeed .coupling f).completeRequest k r [] = { s with
      feed := f
      req := { s.req with
        slots := s.req.slots.set k.val { s.slot k with
          ask := BitVec.ofNat 16 (256 + ticket.toNat), ticket := ticket, phase := .done, result := r
          latched := none, wait := none } k.isLt
        postOrder := s.req.postOrder.filter (fun j => j ≠ k) }
      port := { s.port with recGen := s.port.recGen + 2, alert := s.port.alert ||| 5#7 } } := by
  have h5 : s.port.alert ||| 1#7 ||| 4#7 = s.port.alert ||| 5#7 := by rw [BitVec.or_assoc]; rfl
  rw [State.setFeed_changed (s.posted k ticket) .coupling f hf]
  refine (State.completeRequest_of_req (s := s) (ticket := ticket) ?_ r []).trans ?_
  · rfl
  · rw [writeData_nil, ← h5]
    rfl

theorem FeedSupervisor.rearmed_recordFields_iff (f : FeedSupervisor) :
    f.rearmed.recordFields = f.recordFields ↔ f.latch = false ∧ f.trip = {} := by
  simp only [FeedSupervisor.recordFields, FeedSupervisor.rearmed, Prod.mk.injEq, true_and]
  exact ⟨fun ⟨h1, h2⟩ => ⟨h1.symm, h2.symm⟩, fun ⟨h1, h2⟩ => ⟨h1.symm, h2.symm⟩⟩

/-- The coupling monitor's part of a REARM, as a record (R17). -/
theorem State.monitorRearm_eq (hs : s.cm.state = .faulted) {c : CouplingMonitor} {g : List Instr}
    (h : (c = { s.cm with state := .making, cause := .none, settle := some s.cm.settleMs } ∧ g = [.feedsOffCommand] ∧
        (s.cm.first = true ∨ s.cm.last = true)) ∨
      (c = { s.cm with state := .opened, cause := .none } ∧ g = [.stopNotice, .feedsOffCommand] ∧
        ¬ (s.cm.first = true ∨ s.cm.last = true))) : s.monitorRearm = { s with
      cm := c
      port := { s.port with recGen := s.port.recGen + 2, alert := s.port.alert ||| 1#7 }
      given := s.given ++ g } := by
  have hne : c.recordFields ≠ s.cm.recordFields := fun he => by
    have hst : c.state = s.cm.state := congrArg Prod.fst he
    rw [hs] at hst
    obtain ⟨rfl, -⟩ | ⟨rfl, -⟩ := h <;> cases hst
  unfold State.monitorRearm
  obtain ⟨rfl, rfl, hc⟩ | ⟨rfl, rfl, hc⟩ := h
  · rw [if_pos hc, State.setMonitor_changed s _ hne]; rfl
  · rw [if_neg hc, State.setMonitor_changed s _ hne]; rfl

/-- A REARM in FAULTED that ends: both blocks act, each in its own stable change (R17, R34). -/
theorem State.completeRequest_rearmed {k : SlotNo} {ticket : Byte} (hs : s.cm.state = .faulted) {c : CouplingMonitor}
    {l : List Instr} (h : (s.posted k ticket).monitorRearm = { s.posted k ticket with
      cm := c
      port := { s.port with recGen := s.port.recGen + 2, alert := s.port.alert ||| 1#7 }
      given := s.given ++ l })
    {g : Word} (hg : (g = 2 ∧ s.feed.latch = false ∧ s.feed.trip = {}) ∨ (g = 4 ∧ (s.feed.latch = true ∨ s.feed.trip ≠ {}))) :
    State.completeRequest k (s.posted k ticket).doRearm.2 [] (s.posted k ticket).doRearm.1 = { s with
      cm := c
      feed := s.feed.rearmed
      req := { s.req with
        slots := s.req.slots.set k.val { s.slot k with
          ask := BitVec.ofNat 16 (256 + ticket.toNat), ticket := ticket, phase := .done, result := .ok
          latched := none, wait := none } k.isLt
        postOrder := s.req.postOrder.filter (fun j => j ≠ k) }
      port := { s.port with recGen := s.port.recGen + g, alert := s.port.alert ||| 5#7 }
      given := s.given ++ l } := by
  have hrearm : (s.posted k ticket).doRearm =
      (((s.posted k ticket).monitorRearm).setFeed .coupling (s.posted k ticket).monitorRearm.feed.rearmed, .ok) :=
    (if_pos (.inl hs)).trans (by rw [if_pos (show (s.posted k ticket).cm.state = .faulted from hs)])
  rw [hrearm, h]
  have h5 : s.port.alert ||| 1#7 ||| 4#7 = s.port.alert ||| 5#7 := by rw [BitVec.or_assoc]; rfl
  have h1 : s.port.alert ||| 1#7 ||| 1#7 = s.port.alert ||| 1#7 := by rw [BitVec.or_assoc]; rfl
  have h4 : s.port.recGen + 2 + 2 = s.port.recGen + 4 := by rw [BitVec.add_assoc]; rfl
  have hiff := s.feed.rearmed_recordFields_iff
  obtain ⟨v, hv⟩ : ∃ v : State, v = { s.posted k ticket with
      cm := c
      port := { s.port with recGen := s.port.recGen + 2, alert := s.port.alert ||| 1#7 }
      given := s.given ++ l } := ⟨_, rfl⟩
  have hfeed : v.feed = s.feed := by rw [hv]; rfl
  have hreq : v.req = (s.posted k ticket).req := by rw [hv]
  rw [← hv]
  obtain ⟨rfl, hsame⟩ | ⟨rfl, hchanged⟩ := hg
  · have hsame : v.feed.rearmed.recordFields = v.feed.recordFields := by rw [hfeed]; exact hiff.2 hsame
    rw [State.setFeed_same v .coupling _ hsame]
    refine (State.completeRequest_of_req (s := s) (ticket := ticket) ?_ .ok []).trans ?_
    · exact hreq
    rw [writeData_nil, ← h5, hfeed, hv]
    rfl
  · have hne : v.feed.rearmed.recordFields ≠ v.feed.recordFields := fun he => by
      rw [hfeed] at he
      obtain ⟨hl, ht⟩ := hiff.1 he
      exact hchanged.elim (fun h => Bool.false_ne_true (hl.symm.trans h)) (· ht)
    rw [State.setFeed_changed v .coupling _ hne]
    refine (State.completeRequest_of_req (s := s) (ticket := ticket) ?_ .ok []).trans ?_
    · exact hreq
    rw [writeData_nil, ← h5, ← h4, ← h1, hfeed, hv]
    rfl

/-- Settles O49. -/
theorem driveAndRearm : Obligations.DriveAndRearm := by
  unfold Obligations.DriveAndRearm
  intro s k ticket t ht hr h1 h2 h3 ended hended
  subst ht
  have hend : ∀ r, (s.posted k ticket).completeRequest k r [] = ended r 0 4 := fun r => by
    have h0 : s.port.recGen + 0 = s.port.recGen := BitVec.add_zero _
    rw [State.completeRequest_posted, hended, h0]
    rfl
  refine ⟨fun hk => ?_, fun hk rearmed hrearmed => ?_⟩
  · have harg : ((s.posted k ticket).slot k).argA = (s.slot k).argA := by rw [State.slot_posted]
    have hexec : exec (.driveRequest k ticket) s = .next (State.completeRequest k
        ((s.posted k ticket).doDrive (s.slot k).argA).2 [] ((s.posted k ticket).doDrive (s.slot k).argA).1) := by
      rw [exec_posted (by simp [postsOf]) ⟨h1, h2, h3⟩ hr (Slot.request_drive hk), ← harg]
      rfl
    have hset : ∀ {f : FeedSupervisor}, f.recordFields ≠ s.feed.recordFields →
        ((s.posted k ticket).setFeed .coupling f).completeRequest k .ok [] = { ended .ok 2 5 with feed := f } :=
      fun {f} hf => by rw [State.completeRequest_setFeed hf, hended]; rfl
    refine ⟨fun ha hs hl hlatch => ⟨fun hd => ?_, fun hd => ?_⟩, fun ha hno => ?_, fun ha => ⟨fun hd => ?_, fun hd => ?_⟩⟩
    · have hdrive : (s.posted k ticket).doDrive (s.slot k).argA = ((s.posted k ticket).setFeed .coupling
          { s.feed with driveOn := true, discard := true }, .ok) :=
        (if_neg ha).trans ((if_pos ⟨hs, hl, hlatch⟩).trans (if_neg fun h => Bool.false_ne_true (hd.symm.trans h)))
      rw [hexec, hdrive]
      exact congrArg Host.Outcome.next (hset (by simp [FeedSupervisor.recordFields, hd]))
    · have hdrive : (s.posted k ticket).doDrive (s.slot k).argA = (s.posted k ticket, .ok) :=
        (if_neg ha).trans ((if_pos ⟨hs, hl, hlatch⟩).trans (if_pos hd))
      rw [hexec, hdrive, hend]
    · have hnot : ¬ (s.cm.state = .serving ∧ s.feed.logicOn = true ∧ s.feed.latch = false) := by
        rintro ⟨h1, h2, h3⟩
        rw [h2, h3] at hno
        exact hno.elim (· h1) (by simp)
      have hdrive : (s.posted k ticket).doDrive (s.slot k).argA = (s.posted k ticket, .wrongState) :=
        (if_neg ha).trans (if_neg hnot)
      rw [hexec, hdrive, hend]
    · have hdrive : (s.posted k ticket).doDrive (s.slot k).argA = ((s.posted k ticket).setFeed .coupling
          { s.feed with driveOn := false }, .ok) := if_pos ha
      rw [hexec, hdrive]
      exact congrArg Host.Outcome.next (hset (by simp [FeedSupervisor.recordFields, hd]))
    · have hdrive : (s.posted k ticket).doDrive (s.slot k).argA = (s.posted k ticket, .ok) := by
        refine (if_pos ha).trans ?_
        have hsame : { s.feed with driveOn := false } = s.feed := by rw [← hd]
        rw [show (s.posted k ticket).feed = s.feed from rfl, hsame, State.setFeed_same (s.posted k ticket) .coupling s.feed rfl]
        rfl
      rw [hexec, hdrive, hend]
  · have hfeed : s.feed.rearmed = rearmed := hrearmed.symm
    have hexec : exec (.rearmRequest k ticket) s = .next (State.completeRequest k
        (s.posted k ticket).doRearm.2 [] (s.posted k ticket).doRearm.1) := by
      rw [exec_posted (by simp [postsOf]) ⟨h1, h2, h3⟩ hr (Slot.request_rearm hk)]
      rfl
    have htrip : rearmed.trip = {} := by rw [hrearmed]
    refine ⟨fun hs hl => ?_, fun hs hl => ?_, fun hs g al hg hal => ⟨fun hc => ?_, fun hf hlast => ?_⟩⟩
    · have hrearm : (s.posted k ticket).doRearm = (s.posted k ticket, .wrongState) :=
        if_neg fun h => h.elim hs fun h => Bool.false_ne_true (hl.symm.trans h)
      rw [hexec, hrearm, hend]
    · have hrearm : (s.posted k ticket).doRearm = ((s.posted k ticket).setFeed .coupling s.feed.rearmed, .ok) :=
        (if_pos (.inr hl)).trans (by rw [if_neg (show ¬ (s.posted k ticket).cm.state = .faulted from hs)]; rfl)
      have hne : s.feed.rearmed.recordFields ≠ s.feed.recordFields := fun he =>
        Bool.false_ne_true (((s.feed.rearmed_recordFields_iff).1 he).1.symm.trans hl)
      rw [hexec, hrearm, hended, ← hfeed]
      exact congrArg Host.Outcome.next (State.completeRequest_setFeed hne .ok)
    · rw [htrip] at hg
      rw [hexec, State.completeRequest_rearmed hs
        (State.monitorRearm_eq (s := s.posted k ticket) hs (.inl ⟨rfl, rfl, hc⟩)) hg, hended, hal, ← hfeed]
      rfl
    · rw [htrip] at hg
      refine ⟨_, List.Perm.refl _, ?_⟩
      rw [hexec, State.completeRequest_rearmed hs
        (State.monitorRearm_eq (s := s.posted k ticket) hs (.inr ⟨rfl, rfl, by simp [State.posted, hf, hlast]⟩)) hg, hended,
        hal, ← hfeed]
      rfl

/-! ### Withdrawals and time-outs (R149, R150) -/

/-- The end of a request whose slot holds only a new ASK word. -/
theorem State.completeRequest_putSlot (k : SlotNo) (w : Word) (r : Result) (s : State) :
    (s.putSlot k { s.slot k with ask := w }).completeRequest k r [] = { s with
      req := { s.req with
        slots := s.req.slots.set k.val { s.slot k with
          ask := w, phase := .done, result := r, latched := none, wait := none } k.isLt
        postOrder := s.req.postOrder.filter (fun j => j ≠ k) }
      port := { s.port with alert := s.port.alert ||| 4#7 } } := by
  rw [State.completeRequest_eq, State.slot_putSlot, if_pos rfl, Slot.ended_nil]
  simp only [State.putSlot, Vector.set_set]

theorem State.withdrawAsk_eq (k : SlotNo) (ticket : Byte) (s : State) : s.withdrawAsk k ticket =
    if (s.slot k).phase = .free ∨ ticket ≠ (s.slot k).ticket then
      State.raise .misuse (s.putSlot k { s.slot k with ask := BitVec.ofNat 16 (512 + ticket.toNat) })
    else if (s.slot k).phase = .waiting then
      (s.putSlot k { s.slot k with ask := BitVec.ofNat 16 (512 + ticket.toNat) }).completeRequest k .withdrawn []
    else s.putSlot k { s.slot k with ask := BitVec.ofNat 16 (512 + ticket.toNat) } := by
  unfold State.withdrawAsk
  dsimp only
  rw [State.storeAsk_eq (by omega), State.slot_putSlot, if_pos rfl]

/-- Settles O50. -/
theorem withdrawAndTimeout : Obligations.WithdrawAndTimeout := by
  unfold Obligations.WithdrawAndTimeout
  intro s k ticket t asked ht hasked ended hended
  subst ht
  have hexec : exec (.withdraw k ticket) s = .next (s.withdrawAsk k ticket) := rfl
  refine ⟨fun hk hw => ?_, fun hk hp => ?_, fun h => ?_, fun hp hw => ?_⟩
  · rw [hexec, State.withdrawAsk_eq, if_neg (by simp [hk, hw]), if_pos hw, State.completeRequest_putSlot, hended, hasked]
  · have hno : ¬ ((s.slot k).phase = .free ∨ ticket ≠ (s.slot k).ticket) := by
      rintro (h | h)
      · rw [h] at hp; exact hp.elim (by simp) (by simp)
      · exact h hk
    have hnw : ¬ (s.slot k).phase = .waiting := by rcases hp with h | h <;> simp [h]
    rw [hexec, State.withdrawAsk_eq, if_neg hno, if_neg hnw, hasked]
    rfl
  · rw [hexec, State.withdrawAsk_eq, if_pos h.symm, hasked]
    rfl
  · have hfires : (s.slot k).phase = .waiting ∧ (s.slot k).wait.isSome = true := ⟨hp, Option.isSome_iff_ne_none.2 hw⟩
    have hslot : s.putSlot k { s.slot k with ask := (s.slot k).ask } = s := by
      have hset : s.req.slots.set k.val (s.slot k) k.isLt = s.req.slots := Vector.set_getElem_self k.isLt
      simp only [State.putSlot, hset]
    rw [hended, ← State.completeRequest_putSlot, hslot]
    exact congrArg Host.Outcome.next (if_pos hfires)

end Sys2Proof.Machine
end

section
/-! PROOFS. RUN entry, soft hold and the registers (chapters 8 and 10). -/

namespace Sys2Proof.Machine

variable {s t u : State}

/-! ### The seen words at RUN entry (R80) -/

/-- An entry acknowledged by the word given (R79). -/
def acknowledgedEntry (v : Word) (e : Entry) : Entry :=
  if v = e.gen ∧ e.state = .held then { e with gen := e.gen + 2, state := .bound }
  else if v = e.gen ∧ e.state = .retiring then { state := .vacant, owed := true, gen := e.gen + 2 }
  else e

/-- Name n's seen word acknowledges its entry. -/
def State.acknowledges (s : State) (n : Name) : Prop :=
  s.port.seen[n] = (s.entry n).gen ∧ ((s.entry n).state = .held ∨ (s.entry n).state = .retiring)

/-- What the comparison of the listed names' seen words leaves: the entries, the release list and ALERT, and nothing
else changed. -/
structure SeenEvaluated (l : List Name) (s t : State) : Prop where
  frame : t = { s with
    line := { s.line with releases := t.line.releases }
    dir := { s.dir with entries := t.dir.entries }
    port := { s.port with alert := t.port.alert } }
  listed : ∀ n ∈ l, t.entry n = acknowledgedEntry s.port.seen[n] (s.entry n)
  others : ∀ n, n ∉ l → t.entry n = s.entry n
  releases : ∀ n, n ∈ t.line.releases ↔ n ∈ s.line.releases ∨
    (n ∈ l ∧ (s.entry n).state = .retiring ∧ s.port.seen[n] = (s.entry n).gen)
  sorted : s.line.releases.Pairwise (· < ·) → t.line.releases.Pairwise (· < ·)
  raised : (∃ n ∈ l, s.acknowledges n) → t.port.alert = s.port.alert ||| 2#7
  quiet : (∀ n ∈ l, ¬ s.acknowledges n) → t.port.alert = s.port.alert

theorem SeenEvaluated.refl (s : State) : SeenEvaluated [] s s :=
  ⟨rfl, by simp, fun _ _ => rfl, by simp, id, by simp, fun _ => rfl⟩

theorem entry_set_eq (n m : Name) (e : Entry) (s : State) (hd : t.dir.entries = s.dir.entries.set n.val e n.isLt) :
    t.entry m = if n = m then e else s.entry m := by
  rw [State.entry_eq, hd, State.entry_eq]
  have h := Vector.getElem_set (xs := s.dir.entries) (x := e) n.isLt m.isLt
  refine h.trans ?_
  simp only [Fin.ext_iff]
  rfl

/-- One seen word compared. -/
theorem SeenEvaluated.acknowledge (n : Name) (s : State) : SeenEvaluated [n] s (s.acknowledge n s.port.seen[n]) := by
  by_cases hv : s.port.seen[n] = (s.entry n).gen
  · by_cases hh : (s.entry n).state = .held
    · have hnr : ¬ (s.entry n).state = .retiring := by simp [hh]
      have hack : s.acknowledge n s.port.seen[n] = _ := (State.acknowledge_held hv hh).trans (State.stableEntry_eq _ _ _)
      rw [hack]
      refine ⟨rfl, fun m hm => ?_, fun m hm => ?_, fun m => ?_, id, fun _ => rfl, fun h => ?_⟩
      · obtain rfl := List.mem_singleton.1 hm
        rw [entry_set_eq m m _ s rfl, if_pos rfl, acknowledgedEntry, if_pos ⟨hv, hh⟩]
      · rw [entry_set_eq n m _ s rfl, if_neg fun h => hm (List.mem_singleton.2 h.symm)]
      · refine ⟨.inl, fun h => h.elim id fun ⟨hm, hr, _⟩ => ?_⟩
        obtain rfl := List.mem_singleton.1 hm
        exact absurd hr hnr
      · exact absurd ⟨hv, .inl hh⟩ (h n (List.mem_singleton.2 rfl))
    · by_cases hr : (s.entry n).state = .retiring
      · have hack : s.acknowledge n s.port.seen[n] = _ := (State.acknowledge_retiring hv hr).trans (State.vacateOwed_eq _ _)
        rw [hack]
        refine ⟨rfl, fun m hm => ?_, fun m hm => ?_, fun m => ?_, pairwise_insertName, fun _ => rfl, fun h => ?_⟩
        · obtain rfl := List.mem_singleton.1 hm
          rw [entry_set_eq m m _ s rfl, if_pos rfl, acknowledgedEntry, if_neg fun h => hh h.2, if_pos ⟨hv, hr⟩]
        · rw [entry_set_eq n m _ s rfl, if_neg fun h => hm (List.mem_singleton.2 h.symm)]
        · refine mem_insertName.trans ⟨fun h => h.elim (fun h => ?_) .inl, fun h => h.elim .inr fun ⟨hm, _⟩ => ?_⟩
          · subst h; exact .inr ⟨List.mem_singleton.2 rfl, hr, hv⟩
          · exact .inl (List.mem_singleton.1 hm)
        · exact absurd ⟨hv, .inr hr⟩ (h n (List.mem_singleton.2 rfl))
      · have hack : s.acknowledge n s.port.seen[n] = s := State.acknowledge_ignored (.inr ⟨hh, hr⟩)
        rw [hack]
        refine ⟨rfl, fun m hm => ?_, fun _ _ => rfl, fun m => ?_, id, fun ⟨m, hm, _, h⟩ => ?_, fun _ => rfl⟩
        · obtain rfl := List.mem_singleton.1 hm
          rw [acknowledgedEntry, if_neg fun h => hh h.2, if_neg fun h => hr h.2]
        · refine ⟨.inl, fun h => h.elim id fun ⟨hm, hr', _⟩ => ?_⟩
          obtain rfl := List.mem_singleton.1 hm
          exact absurd hr' hr
        · obtain rfl := List.mem_singleton.1 hm
          exact absurd h (not_or.2 ⟨hh, hr⟩)
  · have hack : s.acknowledge n s.port.seen[n] = s := State.acknowledge_ignored (.inl hv)
    rw [hack]
    refine ⟨rfl, fun m hm => ?_, fun _ _ => rfl, fun m => ?_, id, fun ⟨m, hm, h, _⟩ => ?_, fun _ => rfl⟩
    · obtain rfl := List.mem_singleton.1 hm
      rw [acknowledgedEntry, if_neg fun h => hv h.1, if_neg fun h => hv h.1]
    · refine ⟨.inl, fun h => h.elim id fun ⟨hm, _, hv'⟩ => ?_⟩
      obtain rfl := List.mem_singleton.1 hm
      exact absurd hv' hv
    · obtain rfl := List.mem_singleton.1 hm
      exact absurd h hv

/-- A further name's seen word compared first. -/
theorem SeenEvaluated.cons {n : Name} {l : List Name} (hn : n ∉ l) (h1 : SeenEvaluated [n] s t) (h2 : SeenEvaluated l t u) :
    SeenEvaluated (n :: l) s u := by
  have hseen : t.port.seen = s.port.seen := by rw [h1.frame]
  have hentry : ∀ m ∈ l, t.entry m = s.entry m := fun m hm =>
    h1.others m fun h => hn (List.mem_singleton.1 h ▸ hm)
  have hack : ∀ m ∈ l, t.acknowledges m ↔ s.acknowledges m := fun m hm => by
    unfold State.acknowledges; rw [hseen, hentry m hm]
  refine ⟨?_, fun m hm => ?_, fun m hm => ?_, fun m => ?_, fun h => h2.sorted (h1.sorted h), fun h => ?_, fun h => ?_⟩
  · have h := h2.frame
    rw [h1.frame] at h
    exact h
  · obtain rfl | hm := List.mem_cons.1 hm
    · rw [h2.others m hn, h1.listed m (List.mem_singleton.2 rfl)]
    · rw [h2.listed m hm, hentry m hm, hseen]
  · rw [h2.others m fun h => hm (List.mem_cons_of_mem _ h),
      h1.others m fun h => hm (List.mem_singleton.1 h ▸ List.mem_cons_self)]
  · rw [h2.releases, h1.releases, List.mem_singleton, List.mem_cons]
    by_cases hm : m ∈ l
    · have hne : m ≠ n := fun h => hn (h ▸ hm)
      simp only [hentry m hm, hseen, hm, hne, false_and, or_false, true_and, or_true]
    · simp only [hm, false_and, or_false]
  · by_cases hl : ∃ m ∈ l, t.acknowledges m
    · rw [h2.raised hl]
      by_cases hs : s.acknowledges n
      · rw [h1.raised ⟨n, List.mem_singleton.2 rfl, hs⟩, BitVec.or_assoc, BitVec.or_self]
      · rw [h1.quiet fun m hm => List.mem_singleton.1 hm ▸ hs]
    · rw [h2.quiet fun m hm hs => hl ⟨m, hm, hs⟩]
      obtain ⟨m, hm, hs⟩ := h
      obtain rfl | hm := List.mem_cons.1 hm
      · exact h1.raised ⟨m, List.mem_singleton.2 rfl, hs⟩
      · exact absurd ⟨m, hm, (hack m hm).2 hs⟩ hl
  · rw [h2.quiet fun m hm hs => h m (List.mem_cons_of_mem _ hm) ((hack m hm).1 hs),
      h1.quiet fun m hm => List.mem_singleton.1 hm ▸ h n List.mem_cons_self]

theorem SeenEvaluated.evaluateSeen {l : List Name} (hl : l.Nodup) (s : State) :
    SeenEvaluated l s (State.evaluateSeen l s) := by
  induction l generalizing s with
  | nil => exact .refl s
  | cons n rest ih =>
    obtain ⟨hn, hrest⟩ := List.nodup_cons.1 hl
    exact .cons hn (.acknowledge n s) (ih hrest _)

/-! ### RUN entry (R160, R161) -/

/-- The settings in force and the live fields lowered, before the seen words are compared (R161 steps 1 to 3). -/
def State.runBase (s : State) : State :=
  s.clampSettings.takeValues.lowerLive s.clampSettings.takeValues.roll.strikeLimit
    s.clampSettings.takeValues.roll.keepRounds

theorem State.runBase_eq {q : Params} (hq : s.port.params.clamped = q) : s.runBase = { s with
    line := { s.line with rate := lineRateOf q.lineRate }
    cm := { s.cm with
      settleMs := q.settleMs.toNat, powerWaitMs := q.powerWaitMs.toNat, passRetryMs := q.passRetryMs.toNat }
    feed := { s.feed with limits := limitsOf q.logicLimit q.driveLimit q.sumLimit q.tripA q.tripB }
    walker := { s.walker with passAttempts := q.passAttempts.toNat, sweepRounds := q.sweepRounds.toNat }
    roll := { s.roll with
      rollMs := q.rollMs.toNat, strikeLimit := q.strikeLimit.toNat, keepRounds := q.keepRounds.toNat }
    callRetries := q.callRetries.toNat
    req := { s.req with waitMs := q.requestWaitMs.toNat }
    dir := { s.dir with
      ackMask := ackMaskOf q.ackMask
      entries := Vector.ofFn fun n => (s.entry n).lowered q.strikeLimit.toNat q.keepRounds.toNat
      offer := s.dir.offer.map (Offer.lowered q.keepRounds.toNat) }
    port := { s.port with
      run := true, params := q, classMap := s.port.classMap.map ClassEntry.clamped
      alert := if s.port.clampChanges then s.port.alert ||| 64#7 else s.port.alert } } := by
  subst hq
  unfold State.runBase
  rw [State.clampSettings_eq]
  rfl

theorem State.evaluateSeen_cm (l : List Name) (s : State) : (State.evaluateSeen l s).cm = s.cm :=
  congrArg Kept.cm (State.evaluateSeen_kept l s)

theorem State.runBase_cm_state (s : State) : s.runBase.cm.state = s.cm.state := by rw [State.runBase_eq rfl]

/-- Where the coupling is not active no grant is decided for the names that join. -/
theorem State.decideIfJoined_of_lineOff (h : t.cm.state.lineOn = false) : s.decideIfJoined t = t := by
  unfold State.decideIfJoined
  rw [State.decideGrant_of_lineOff _ h, ite_self]

theorem State.enterRun_eq (hd : s.cm.state = .dormant) :
    s.enterRun = (State.evaluateSeen allNames s.runBase).monitorEntry := by
  have hoff : (State.evaluateSeen allNames s.runBase).cm.state.lineOn = false := by
    rw [State.evaluateSeen_cm, State.runBase_cm_state, hd]
    rfl
  have henter : s.enterRun =
      (s.clampSettings.takeValues.decideIfJoined (State.evaluateSeen allNames s.runBase)).monitorEntry := by
    rw [State.enterRun, State.runBase]
  rw [henter, State.decideIfJoined_of_lineOff hoff]

/-- The coupling monitor at RUN entry, as a record (R18). -/
theorem State.monitorEntry_eq (hd : s.cm.state = .dormant) : s.monitorEntry = { s with
    cm := { s.cm with
      state := if s.cm.first = true ∨ s.cm.last = true then .making else .opened
      shownFirst := s.cm.first, shownLast := s.cm.last, partialMate := false, cause := .none
      settle := if s.cm.first = true ∨ s.cm.last = true then some s.cm.settleMs else s.cm.settle }
    port := { s.port with recGen := s.port.recGen + 2, alert := s.port.alert ||| 1#7 }
    given := s.given ++ [if s.cm.first = true ∨ s.cm.last = true then .sampleNotice else .stopNotice, .feedsOffCommand] } := by
  have hne : ∀ c : CouplingMonitor, c.state ≠ .dormant → c.recordFields ≠ s.cm.recordFields := fun c hc he =>
    hc ((congrArg Prod.fst he).trans hd)
  unfold State.monitorEntry
  dsimp only
  by_cases hc : s.cm.first = true ∨ s.cm.last = true
  · simp only [eq_true hc, if_true]
    rw [State.setMonitor_changed s _ (hne _ (by simp))]
    rfl
  · simp only [eq_false hc, if_false]
    rw [State.setMonitor_changed s _ (hne _ (by simp))]
    rfl

/-- RUN entry as a record, with the entries, the release list and ALERT that the seen words leave. -/
theorem State.enterRun_record (hd : s.cm.state = .dormant) {q : Params} (hq : s.port.params.clamped = q) :
    ∃ (l : List Name) (v : Vector Entry 62) (a : BitVec 7), s.enterRun = { s with
        cm := { s.cm with
          state := if s.cm.first = true ∨ s.cm.last = true then .making else .opened
          shownFirst := s.cm.first, shownLast := s.cm.last, partialMate := false, cause := .none
          settle := if s.cm.first = true ∨ s.cm.last = true then some q.settleMs.toNat else s.cm.settle
          settleMs := q.settleMs.toNat, powerWaitMs := q.powerWaitMs.toNat, passRetryMs := q.passRetryMs.toNat }
        line := { s.line with rate := lineRateOf q.lineRate, releases := l }
        feed := { s.feed with limits := limitsOf q.logicLimit q.driveLimit q.sumLimit q.tripA q.tripB }
        walker := { s.walker with passAttempts := q.passAttempts.toNat, sweepRounds := q.sweepRounds.toNat }
        roll := { s.roll with
          rollMs := q.rollMs.toNat, strikeLimit := q.strikeLimit.toNat, keepRounds := q.keepRounds.toNat }
        callRetries := q.callRetries.toNat
        req := { s.req with waitMs := q.requestWaitMs.toNat }
        dir := { s.dir with
          ackMask := ackMaskOf q.ackMask, entries := v, offer := s.dir.offer.map (Offer.lowered q.keepRounds.toNat) }
        port := { s.port with
          run := true, params := q, classMap := s.port.classMap.map ClassEntry.clamped
          recGen := s.port.recGen + 2, alert := a ||| 1#7 }
        given := s.given ++
          [if s.cm.first = true ∨ s.cm.last = true then .sampleNotice else .stopNotice, .feedsOffCommand] } ∧
      (∀ n : Name, v[n] =
        acknowledgedEntry s.port.seen[n] ((s.entry n).lowered q.strikeLimit.toNat q.keepRounds.toNat)) ∧
      (∀ n : Name, n ∈ l ↔ n ∈ s.line.releases ∨
        ((s.entry n).state = .retiring ∧ s.port.seen[n] = (s.entry n).gen)) ∧
      (s.line.releases.Pairwise (· < ·) → l.Pairwise (· < ·)) ∧
      ((∃ n, s.acknowledges n) →
        a = (if s.port.clampChanges then s.port.alert ||| 64#7 else s.port.alert) ||| 2#7) ∧
      ((∀ n, ¬ s.acknowledges n) → a = if s.port.clampChanges then s.port.alert ||| 64#7 else s.port.alert) := by
  have hbase := State.runBase_eq hq
  have hentry : ∀ n, s.runBase.entry n = (s.entry n).lowered q.strikeLimit.toNat q.keepRounds.toNat := fun n => by
    rw [hbase, State.entry_eq]
    exact Vector.getElem_ofFn (f := fun n => (s.entry n).lowered q.strikeLimit.toNat q.keepRounds.toNat) n.isLt
  have hseen : s.runBase.port.seen = s.port.seen := by rw [hbase]
  have hrel : s.runBase.line.releases = s.line.releases := by rw [hbase]
  have hacks : ∀ n, s.runBase.acknowledges n ↔ s.acknowledges n := fun n => by
    unfold State.acknowledges; rw [hentry, hseen]; rfl
  obtain ⟨u, hu⟩ : ∃ u, u = State.evaluateSeen allNames s.runBase := ⟨_, rfl⟩
  have hev := SeenEvaluated.evaluateSeen (List.nodup_finRange 62) s.runBase
  rw [show List.finRange 62 = allNames from rfl, ← hu] at hev
  refine ⟨u.line.releases, u.dir.entries, u.port.alert, ?_, fun n => ?_, fun n => ?_, fun h => ?_, fun h => ?_, fun h => ?_⟩
  · have hframe := hev.frame
    have hcm : u.cm.state = .dormant := by rw [hframe, hbase]; exact hd
    rw [State.enterRun_eq hd, ← hu, State.monitorEntry_eq hcm]
    generalize u.line.releases = l at hframe ⊢
    generalize u.dir.entries = v at hframe ⊢
    generalize u.port.alert = a at hframe ⊢
    subst hframe
    rw [hbase]
  · rw [← hentry, ← hseen]
    exact hev.listed n (mem_allNames n)
  · rw [hev.releases, hrel, hentry, hseen]
    exact or_congr_right ⟨fun h => ⟨h.2.1, h.2.2⟩, fun h => ⟨mem_allNames n, h.1, h.2⟩⟩
  · exact hev.sorted (by rw [hrel]; exact h)
  · obtain ⟨n, hn⟩ := h
    rw [hev.raised ⟨n, mem_allNames n, (hacks n).2 hn⟩, hbase]
  · rw [hev.quiet fun n _ hn => h n ((hacks n).1 hn), hbase]

/-- The clamp changes no word (R160 step 4). -/
theorem ExchangePort.clampChanges_eq_false_iff (p : ExchangePort) : p.clampChanges = false ↔
    p.params = p.params.clamped ∧ p.classMap = p.classMap.map ClassEntry.clamped := by
  simp only [ExchangePort.clampChanges, decide_eq_false_iff_not, not_or, ne_eq, Decidable.not_not]
  exact ⟨fun ⟨h1, h2⟩ => ⟨h1.symm, h2.symm⟩, fun ⟨h1, h2⟩ => ⟨h1.symm, h2.symm⟩⟩

/-- Settles O51, clause by clause of the record RUN entry leaves. -/
theorem runEntrySequence : Obligations.RunEntrySequence := by
  unfold Obligations.RunEntrySequence
  refine fun s => ⟨fun hr => congrArg Host.Outcome.next (if_pos hr), fun hr hd => ?_⟩
  obtain ⟨q, hq⟩ : ∃ q, s.port.params.clamped = q := ⟨_, rfl⟩
  obtain ⟨l, v, a, henter, hv, hl, hsorted, hraised, hquiet⟩ := State.enterRun_record hd hq
  have hexec : exec .runEntry s = .next s.enterRun := congrArg Host.Outcome.next (if_neg (by simp [hr]))
  rw [hexec, henter]
  refine ⟨_, rfl, rfl, fun p q' hp hq' => ?_, rfl, rfl, rfl, rfl, rfl, hl, hsorted, ?_, List.Perm.refl _⟩
  · have hq' : q' = q := hq'
    subst hq' hp
    have hnums := hq
    rw [Params.clamped_eq] at hnums
    refine ⟨?_, ?_, ?_, ?_, ?_, ?_, ?_, ?_, ?_, ?_, ?_, ?_, ?_, ?_, ?_, ?_, ?_, rfl, rfl, rfl, rfl, rfl, rfl, fun h => ?_,
      fun h => ?_, fun h => ?_, rfl, fun c => ?_, fun n e he => ?_, ?_⟩
    rotate_left 17
    · show lineRateOf q'.lineRate = _; rw [h]; rfl
    · show lineRateOf q'.lineRate = _; rw [h]; rfl
    · show lineRateOf q'.lineRate = _; rw [h]; rfl
    · exact Vector.getElem_map (f := ClassEntry.clamped) (xs := s.port.classMap) c.isLt
    · subst he
      refine ⟨fun hs hh => (hv n).trans (if_pos ⟨hs, hh⟩), fun hs hh => ⟨(hv n).trans ?_, (hl n).2 (.inr ⟨hh, hs⟩)⟩,
        fun h => (hv n).trans ?_⟩
      · exact (if_neg fun h => EntryState.noConfusion (h.2.symm.trans hh)).trans (if_pos ⟨hs, hh⟩)
      · have hno : ∀ {st : EntryState}, st = .held ∨ st = .retiring →
            ¬ (s.port.seen[n] = ((s.entry n).lowered q'.strikeLimit.toNat q'.keepRounds.toNat).gen ∧
              ((s.entry n).lowered q'.strikeLimit.toNat q'.keepRounds.toNat).state = st) := fun hst ⟨h1, h2⟩ =>
          h.elim (· h1) fun ⟨h3, h4⟩ => hst.elim (fun hst => h3 (h2.trans hst)) fun hst => h4 (h2.trans hst)
        exact (if_neg (hno (.inl rfl))).trans (if_neg (hno (.inr rfl)))
    · show a ||| 1#7 = _
      have hsame : (s.port.params = q' ∧ s.port.classMap = s.port.classMap.map ClassEntry.clamped) ↔
          s.port.clampChanges = false := by
        rw [ExchangePort.clampChanges_eq_false_iff, hq]
      have hA : a = s.port.alert |||
          (if s.port.params = q' ∧ s.port.classMap = s.port.classMap.map ClassEntry.clamped then 0#7 else 64#7) |||
          (if ∃ n : Name, s.port.seen[n] = (s.entry n).gen ∧
            ((s.entry n).state = .held ∨ (s.entry n).state = .retiring) then 2#7 else 0#7) := by
        have hB : (if s.port.clampChanges then s.port.alert ||| 64#7 else s.port.alert) = s.port.alert |||
            (if s.port.params = q' ∧ s.port.classMap = s.port.classMap.map ClassEntry.clamped then 0#7 else 64#7) := by
          cases hc : s.port.clampChanges with
          | false => rw [if_pos (hsame.2 hc), BitVec.or_zero]; rfl
          | true => rw [if_neg fun h => Bool.false_ne_true ((hsame.1 h).symm.trans hc)]; rfl
        rw [← hB]
        by_cases hack : ∃ n : Name, s.port.seen[n] = (s.entry n).gen ∧
            ((s.entry n).state = .held ∨ (s.entry n).state = .retiring)
        · rw [hraised hack, if_pos hack]
        · rw [hquiet fun n hn => hack ⟨n, hn⟩, if_neg hack, BitVec.or_zero]
      have hmoved : ∀ x y : BitVec 7, s.port.alert ||| x ||| y ||| 1#7 = s.port.alert ||| 1#7 ||| x ||| y :=
        fun x y => by ac_rfl
      rw [hA]
      exact hmoved _ _
    all_goals rw [← hnums]
    · exact (clampWord_toNat (by omega) (by omega) _).trans (Nat.zero_max _)
    · exact clampWord_toNat (by omega) (by omega) _
    · exact clampWord_toNat (by omega) (by omega) _
    · exact clampWord_toNat (by omega) (by omega) _
    · exact clampWord_toNat (by omega) (by omega) _
    · exact clampWord_toNat (by omega) (by omega) _
    · exact clampWord_toNat (by omega) (by omega) _
    · exact (clampWord_toNat (by omega) (by omega) _).trans (Nat.zero_max _)
    · exact clampWord_toNat (by omega) (by omega) _
    · exact (clampWord_toNat (by omega) (by omega) _).trans (Nat.zero_max _)
    · exact clampWord_toNat (by omega) (by omega) _
    · exact clampWord_toNat (by omega) (by omega) _
    · exact clampWord_toNat (by omega) (by omega) _
    · exact clampWord_toNat (by omega) (by omega) _
    · exact clampWord_toNat (by omega) (by omega) _
    · exact clampedTripB_toNat ..
  · exact congrArg (s.dir.offer.map ·) (Offer.lowered_eq_ite _)

/-! ### Soft hold and the registers (R19, R133, R140, R141, R162) -/

/-- Soft hold in RUN out of a coupling that is not DORMANT, as a record (R162). -/
theorem State.softHold_eq (hd : s.cm.state ≠ .dormant) : s.softHold = { s with
    feed := { s.feed with logicOn := false, driveOn := false, capture := none, run := 0 }
    cm := { s.cm with
      state := .dormant, settle := none, powerWait := none, passRetry := none, partialMate := false, cause := .none }
    port := { s.port with
      run := false, alert := s.port.alert ||| 1#7
      recGen := s.port.recGen + (if s.feed.logicOn = true ∨ s.feed.driveOn = true then 4 else 2) }
    given := s.given ++ (.stopNotice :: (lossGiven s.cm.state .hold).erase (.feedCouplingLost .hold)) } := by
  have hcm : ∀ c : CouplingMonitor, c.state = .dormant → c.recordFields ≠ s.cm.recordFields := fun c hc he =>
    hd ((congrArg Prod.fst he).symm.trans hc)
  have hsoft : s.softHold = (({ s with port := { s.port with run := false } } : State).feedLoss .hold).monitorHold :=
    if_neg hd
  obtain ⟨v, hv⟩ : ∃ v : State, v = ({ s with port := { s.port with run := false } } : State).feedLoss .hold := ⟨_, rfl⟩
  have hoff : v = { s with
      feed := { s.feed with logicOn := false, driveOn := false, capture := none, run := 0 }
      port := { s.port with
        run := false
        alert := if s.feed.logicOn = false ∧ s.feed.driveOn = false then s.port.alert else s.port.alert ||| 1#7
        recGen := if s.feed.logicOn = false ∧ s.feed.driveOn = false then s.port.recGen else s.port.recGen + 2 } } := by
    have hiff := FeedSupervisor.off_recordFields_iff s.feed none 0 s.feed.latch
    rw [hv]
    unfold State.feedLoss
    rw [State.setFeed_eq]
    by_cases h : s.feed.logicOn = false ∧ s.feed.driveOn = false
    · have hsame := hiff.2 ⟨h.1, h.2, rfl⟩
      simp only [reduceCtorEq, if_false, eq_true hsame, if_true, eq_true h]
    · have hchanged := mt hiff.1 fun h' => h ⟨h'.1, h'.2.1⟩
      simp only [reduceCtorEq, if_false, eq_false hchanged, eq_false h]
      rfl
  have hvcm : v.cm = s.cm := by rw [hoff]
  rw [hsoft, ← hv]
  unfold State.monitorHold
  rw [State.setMonitor_changed v _ (by rw [hvcm]; exact hcm _ rfl), hvcm, hoff]
  by_cases h : s.feed.logicOn = false ∧ s.feed.driveOn = false
  · have hno : ¬ (s.feed.logicOn = true ∨ s.feed.driveOn = true) := by simp [h]
    simp only [eq_true h, eq_false hno, if_true, if_false]
    rfl
  · have hon : s.feed.logicOn = true ∨ s.feed.driveOn = true := by
      by_contra hno
      exact h (by simpa using hno)
    have h4 : s.port.recGen + 2 + 2 = s.port.recGen + 4 := by rw [BitVec.add_assoc]; rfl
    have h1 : s.port.alert ||| 1#7 ||| 1#7 = s.port.alert ||| 1#7 := by rw [BitVec.or_assoc, BitVec.or_self]
    simp only [eq_false h, eq_true hon, if_true, if_false, h4, h1]
    rfl

/-- The notices a soft hold gives on: the feed supervisor has taken its own (log 38). -/
theorem lossGiven_hold (c : CouplingState) : (lossGiven c .hold).erase (.feedCouplingLost .hold) =
    (if c = .discovering ∨ c = .serving then [.lineInactiveNotice] else []) ++
      [.lineCouplingLost .hold, .walkerCouplingLost .hold, .directoryCouplingLost .hold,
        .rollCouplingLost .hold, .requestCouplingLost .hold] := by
  cases c <;> rfl

theorem State.attnLow_iff : s.attnLow = true ↔
    ∃ k, k < 7 ∧ s.port.alert.getLsbD k = true ∧ s.port.alertMask.getLsbD k = true := by
  unfold State.attnLow
  rw [decide_eq_true_eq]
  refine ⟨fun h => ?_, fun ⟨k, hk, h1, h2⟩ h => ?_⟩
  · by_contra hno
    refine h (BitVec.eq_of_getLsbD_eq fun k hk => ?_)
    rw [BitVec.getLsbD_and, BitVec.getLsbD_zero, Bool.and_eq_false_iff]
    by_contra hon
    exact hno ⟨k, hk, by simpa using hon⟩
  · have hbit := congrArg (fun v : BitVec 7 => v.getLsbD k) h
    simp only [BitVec.getLsbD_and, h1, h2, BitVec.getLsbD_zero, Bool.and_self, Bool.true_eq_false] at hbit

/-- Settles O52. -/
theorem softHoldAndRegisters : Obligations.SoftHoldAndRegisters := by
  unfold Obligations.SoftHoldAndRegisters
  refine fun s => ⟨fun hr => congrArg Host.Outcome.next (if_neg (by simp [hr])), fun hr hd => ?_,
    fun v => ⟨_, rfl, fun k hk => ?_⟩, fun v => ⟨_, rfl, fun k hk => ?_⟩, rfl, ?_⟩
  · refine ⟨s.given ++ (.stopNotice :: (lossGiven s.cm.state .hold).erase (.feedCouplingLost .hold)), ?_, ?_⟩
    · rw [lossGiven_hold, List.append_assoc, List.append_assoc]
      exact List.Perm.refl _
    · rw [← State.softHold_eq hd]
      exact congrArg Host.Outcome.next (if_pos hr)
  · simp only [BitVec.getLsbD_and, BitVec.getLsbD_not, BitVec.getLsbD_setWidth, hk, decide_true, Bool.true_and]
  · simp only [BitVec.getLsbD_setWidth, hk, decide_true, Bool.true_and]
  · exact State.attnLow_iff

end Sys2Proof.Machine
end

section
/-! PROOFS. The areas of the word addresses, and what a host write stores (chapter 8). -/

namespace Sys2Proof.Machine

variable {s : State} {addr : BitVec 11}

/-! ### The areas (section 8.2) -/

/-- The addresses of an area's word, by the map of section 8.2. -/
def Area.Lists (a : Nat) : Area → Prop
  | .param k => a = k ∧ k < 0x011
  | .classMap c k => a = 0x040 + 2 * c.val + k ∧ k < 2
  | .record k => a = 0x0C0 + k ∧ k < 0x040
  | .seen n => a = 0x101 + n.val
  | .directory n k => a = 0x208 + 8 * n.val + k ∧ k < 8
  | .slot j k => a = 0x400 + 32 * j.val + k ∧ (k ≤ 4 ∨ (8 ≤ k ∧ k < 24))
  | .ident => a = 0x500
  | .runctl => a = 0x501
  | .alert => a = 0x502
  | .alertmask => a = 0x503
  | .unlisted => (0x011 ≤ a ∧ a < 0x040) ∨ a = 0x100 ∨ (0x13F ≤ a ∧ a ≤ 0x207) ∨
      (0x3F8 ≤ a ∧ a ≤ 0x3FF) ∨ (0x400 ≤ a ∧ a < 0x500 ∧ ((5 ≤ a % 32 ∧ a % 32 ≤ 7) ∨ 24 ≤ a % 32)) ∨ 0x504 ≤ a

theorem areaOf_param (h : addr.toNat < 0x011) : areaOf addr = .param addr.toNat := if_pos h

theorem areaOf_classMap {c : Fin 64} {k : Nat} (hk : k < 2) (h : addr.toNat = 0x040 + 2 * c.val + k) :
    areaOf addr = .classMap c k := by
  have h1 : ¬ addr.toNat < 0x011 := by omega
  have h2 : ¬ addr.toNat < 0x040 := by omega
  have h3 : 0x040 ≤ addr.toNat ∧ addr.toNat < 0x0C0 := by omega
  unfold areaOf
  dsimp only
  rw [if_neg h1, if_neg h2, dif_pos h3]
  exact congrArg₂ Area.classMap (Fin.ext (by dsimp only; omega)) (by omega)

theorem areaOf_record {k : Nat} (hk : k < 0x040) (h : addr.toNat = 0x0C0 + k) : areaOf addr = .record k := by
  have h1 : ¬ addr.toNat < 0x011 := by omega
  have h2 : ¬ addr.toNat < 0x040 := by omega
  have h3 : ¬ (0x040 ≤ addr.toNat ∧ addr.toNat < 0x0C0) := by omega
  have h4 : addr.toNat < 0x100 := by omega
  unfold areaOf
  dsimp only
  rw [if_neg h1, if_neg h2, dif_neg h3, if_pos h4]
  exact congrArg Area.record (by omega)

theorem areaOf_seen {n : Name} (h : addr.toNat = 0x101 + n.val) : areaOf addr = .seen n := by
  have hn := n.isLt
  have h1 : ¬ addr.toNat < 0x011 := by omega
  have h2 : ¬ addr.toNat < 0x040 := by omega
  have h3 : ¬ (0x040 ≤ addr.toNat ∧ addr.toNat < 0x0C0) := by omega
  have h4 : ¬ addr.toNat < 0x100 := by omega
  have h5 : 0x101 ≤ addr.toNat ∧ addr.toNat ≤ 0x13E := by omega
  unfold areaOf
  dsimp only
  rw [if_neg h1, if_neg h2, dif_neg h3, if_neg h4, dif_pos h5]
  exact congrArg Area.seen (Fin.ext (by dsimp only; omega))

theorem areaOf_directory {n : Name} {k : Nat} (hk : k < 8) (h : addr.toNat = 0x208 + 8 * n.val + k) :
    areaOf addr = .directory n k := by
  have hn := n.isLt
  have h1 : ¬ addr.toNat < 0x011 := by omega
  have h2 : ¬ addr.toNat < 0x040 := by omega
  have h3 : ¬ (0x040 ≤ addr.toNat ∧ addr.toNat < 0x0C0) := by omega
  have h4 : ¬ addr.toNat < 0x100 := by omega
  have h5 : ¬ (0x101 ≤ addr.toNat ∧ addr.toNat ≤ 0x13E) := by omega
  have h6 : 0x208 ≤ addr.toNat ∧ addr.toNat ≤ 0x3F7 := by omega
  unfold areaOf
  dsimp only
  rw [if_neg h1, if_neg h2, dif_neg h3, if_neg h4, dif_neg h5, dif_pos h6]
  exact congrArg₂ Area.directory (Fin.ext (by dsimp only; omega)) (by omega)

theorem areaOf_slot {j : SlotNo} {k : Nat} (hk : k ≤ 4 ∨ (8 ≤ k ∧ k < 24))
    (h : addr.toNat = 0x400 + 32 * j.val + k) :
    areaOf addr = .slot j k := by
  have hj := j.isLt
  have h1 : ¬ addr.toNat < 0x011 := by omega
  have h2 : ¬ addr.toNat < 0x040 := by omega
  have h3 : ¬ (0x040 ≤ addr.toNat ∧ addr.toNat < 0x0C0) := by omega
  have h4 : ¬ addr.toNat < 0x100 := by omega
  have h5 : ¬ (0x101 ≤ addr.toNat ∧ addr.toNat ≤ 0x13E) := by omega
  have h6 : ¬ (0x208 ≤ addr.toNat ∧ addr.toNat ≤ 0x3F7) := by omega
  have h7 : 0x400 ≤ addr.toNat ∧ addr.toNat < 0x500 := by omega
  have h8 : (addr.toNat - 0x400) % 32 ≤ 4 ∨ (8 ≤ (addr.toNat - 0x400) % 32 ∧ (addr.toNat - 0x400) % 32 < 24) := by
    omega
  unfold areaOf
  dsimp only
  rw [if_neg h1, if_neg h2, dif_neg h3, if_neg h4, dif_neg h5, dif_neg h6, dif_pos h7, if_pos h8]
  exact congrArg₂ Area.slot (Fin.ext (by dsimp only; omega)) (by omega)

theorem areaOf_runctl : areaOf 0x501#11 = .runctl := by decide
theorem areaOf_alert : areaOf 0x502#11 = .alert := by decide
theorem areaOf_alertmask : areaOf 0x503#11 = .alertmask := by decide

theorem areaOf_unlisted (h : Area.unlisted.Lists addr.toNat) : areaOf addr = .unlisted := by
  simp only [Area.Lists] at h
  have h1 : ¬ addr.toNat < 0x011 := by omega
  by_cases h2 : addr.toNat < 0x040
  · unfold areaOf
    dsimp only
    rw [if_neg h1, if_pos h2]
  have h3 : ¬ (0x040 ≤ addr.toNat ∧ addr.toNat < 0x0C0) := by omega
  have h4 : ¬ addr.toNat < 0x100 := by omega
  have h5 : ¬ (0x101 ≤ addr.toNat ∧ addr.toNat ≤ 0x13E) := by omega
  have h6 : ¬ (0x208 ≤ addr.toNat ∧ addr.toNat ≤ 0x3F7) := by omega
  rcases Classical.em (0x400 ≤ addr.toNat ∧ addr.toNat < 0x500) with h7 | h7
  · have h8 : ¬ ((addr.toNat - 0x400) % 32 ≤ 4 ∨
        (8 ≤ (addr.toNat - 0x400) % 32 ∧ (addr.toNat - 0x400) % 32 < 24)) := by omega
    unfold areaOf
    dsimp only
    rw [if_neg h1, if_neg h2, dif_neg h3, if_neg h4, dif_neg h5, dif_neg h6, dif_pos h7, if_neg h8]
  · have h8 : addr.toNat ≠ 0x500 := by omega
    have h9 : addr.toNat ≠ 0x501 := by omega
    have h10 : addr.toNat ≠ 0x502 := by omega
    have h11 : addr.toNat ≠ 0x503 := by omega
    unfold areaOf
    dsimp only
    rw [if_neg h1, if_neg h2, dif_neg h3, if_neg h4, dif_neg h5, dif_neg h6, dif_neg h7, if_neg h8, if_neg h9,
      if_neg h10, if_neg h11]

/-- A word lies in the area that lists it. -/
theorem areaOf_of_lists {area : Area} (h : area.Lists addr.toNat) : areaOf addr = area := by
  cases area with
  | param k => exact h.1 ▸ areaOf_param (h.1 ▸ h.2)
  | classMap c k => exact areaOf_classMap h.2 h.1
  | record k => exact areaOf_record h.2 h.1
  | seen n => exact areaOf_seen h
  | directory n k => exact areaOf_directory h.2 h.1
  | slot j k => exact areaOf_slot h.2 h.1
  | ident => exact (BitVec.eq_of_toNat_eq h : addr = 0x500#11) ▸ areaOf_ident
  | runctl => exact (BitVec.eq_of_toNat_eq h : addr = 0x501#11) ▸ areaOf_runctl
  | alert => exact (BitVec.eq_of_toNat_eq h : addr = 0x502#11) ▸ areaOf_alert
  | alertmask => exact (BitVec.eq_of_toNat_eq h : addr = 0x503#11) ▸ areaOf_alertmask
  | unlisted => exact areaOf_unlisted h

/-- The map lists every address. -/
theorem exists_lists (addr : BitVec 11) : ∃ area : Area, area.Lists addr.toNat := by
  have ha := addr.isLt
  by_cases h1 : addr.toNat < 0x011
  · exact ⟨.param addr.toNat, rfl, h1⟩
  by_cases h2 : 0x040 ≤ addr.toNat ∧ addr.toNat < 0x0C0
  · exact ⟨.classMap ⟨(addr.toNat - 0x040) / 2, by omega⟩ ((addr.toNat - 0x040) % 2),
      by dsimp only; omega, by omega⟩
  by_cases h3 : 0x0C0 ≤ addr.toNat ∧ addr.toNat < 0x100
  · exact ⟨.record (addr.toNat - 0x0C0), by omega, by omega⟩
  by_cases h4 : 0x101 ≤ addr.toNat ∧ addr.toNat ≤ 0x13E
  · exact ⟨.seen ⟨addr.toNat - 0x101, by omega⟩, by simp only [Area.Lists]; omega⟩
  by_cases h5 : 0x208 ≤ addr.toNat ∧ addr.toNat ≤ 0x3F7
  · exact ⟨.directory ⟨(addr.toNat - 0x208) / 8, by omega⟩ ((addr.toNat - 0x208) % 8),
      by dsimp only; omega, by omega⟩
  by_cases h6 : 0x400 ≤ addr.toNat ∧ addr.toNat < 0x500 ∧
      (addr.toNat % 32 ≤ 4 ∨ (8 ≤ addr.toNat % 32 ∧ addr.toNat % 32 < 24))
  · exact ⟨.slot ⟨(addr.toNat - 0x400) / 32, by omega⟩ (addr.toNat % 32), by dsimp only; omega, h6.2.2⟩
  by_cases h7 : addr.toNat = 0x500
  · exact ⟨.ident, h7⟩
  by_cases h8 : addr.toNat = 0x501
  · exact ⟨.runctl, h8⟩
  by_cases h9 : addr.toNat = 0x502
  · exact ⟨.alert, h9⟩
  by_cases h10 : addr.toNat = 0x503
  · exact ⟨.alertmask, h10⟩
  · exact ⟨.unlisted, by simp only [Area.Lists]; omega⟩

theorem areaOf_lists (addr : BitVec 11) : (areaOf addr).Lists addr.toNat := by
  obtain ⟨area, harea⟩ := exists_lists addr
  exact areaOf_of_lists harea ▸ harea

/-- A listed word has one address. -/
theorem areaOf_injective {b : BitVec 11} (h : areaOf b = areaOf addr) (hu : areaOf addr ≠ .unlisted) : b = addr := by
  have h1 := areaOf_lists b
  have h2 := areaOf_lists addr
  rw [h] at h1
  apply BitVec.eq_of_toNat_eq
  cases harea : areaOf addr with
  | param k => rw [harea] at h1 h2; exact h1.1.trans h2.1.symm
  | classMap c k => rw [harea] at h1 h2; exact h1.1.trans h2.1.symm
  | record k => rw [harea] at h1 h2; exact h1.1.trans h2.1.symm
  | directory n k => rw [harea] at h1 h2; exact h1.1.trans h2.1.symm
  | slot j k => rw [harea] at h1 h2; exact h1.1.trans h2.1.symm
  | seen n => rw [harea] at h1 h2; exact h1.trans h2.symm
  | ident => rw [harea] at h1 h2; exact h1.trans h2.symm
  | runctl => rw [harea] at h1 h2; exact h1.trans h2.symm
  | alert => rw [harea] at h1 h2; exact h1.trans h2.symm
  | alertmask => rw [harea] at h1 h2; exact h1.trans h2.symm
  | unlisted => exact absurd harea hu

/-! ### The parameter words (section 11.1) -/

/-- The seventeen parameter words in the order of their addresses. -/
def Params.words (p : Params) : List Word :=
  [p.lineRate, p.settleMs, p.powerWaitMs, p.passRetryMs, p.rollMs, p.strikeLimit, p.keepRounds, p.sweepRounds,
    p.passAttempts, p.callRetries, p.requestWaitMs, p.ackMask, p.logicLimit, p.driveLimit, p.sumLimit, p.tripA, p.tripB]

theorem Params.word?_eq (p : Params) (k : Nat) : p.word? k = p.words[k]? := by
  by_cases hk : k < 17
  · interval_cases k <;> rfl
  · obtain ⟨i, rfl⟩ : ∃ i, k = i + 17 := ⟨k - 17, by omega⟩
    exact (List.getElem?_eq_none (by simp [Params.words])).symm

theorem Params.words_injective {p q : Params} (h : p.words = q.words) : p = q := by
  cases p
  cases q
  simpa [Params.words] using h

/-- A host's word with its unused bits 0, by its place in the parameter area. -/
def paramMask (k : Nat) (v : Word) : Word := if k = 0x00B then v &&& 0x000F#16 else v

theorem Params.words_store (p : Params) (v : Word) {k : Nat} (hk : k < 17) :
    (p.store v k).words = p.words.set k (paramMask k v) := by
  interval_cases k <;> rfl

theorem Params.word?_store (p : Params) (v : Word) {k : Nat} (hk : k < 17) (j : Nat) :
    (p.store v k).word? j = if k = j then some (paramMask k v) else p.word? j := by
  have hlen : k < p.words.length := hk
  rw [Params.word?_eq, Params.word?_eq, Params.words_store p v hk]
  split
  · rename_i h; subst h; exact List.getElem?_set_self hlen
  · rename_i h; exact List.getElem?_set_ne h

/-! ### The words of a class map entry and of a slot (sections 11.2 and 11.5) -/

theorem extract_low_toNat (v : Word) : (v.extractLsb' 0 8).toNat = v.toNat % 256 := by
  simp [BitVec.extractLsb'_toNat]

theorem extract_high_toNat (v : Word) : (v.extractLsb' 8 8).toNat = v.toNat / 256 := by
  have hv := v.isLt
  rw [BitVec.extractLsb'_toNat, Nat.shiftRight_eq_div_pow]
  exact Nat.mod_eq_of_lt (by omega)

theorem two_bytes (v : Word) : BitVec.ofNat 16 (256 * (v.extractLsb' 8 8).toNat + (v.extractLsb' 0 8).toNat) = v := by
  have hv := v.isLt
  apply BitVec.eq_of_toNat_eq
  rw [extract_high_toNat, extract_low_toNat, BitVec.toNat_ofNat]
  omega

theorem low_byte_word (v : Word) : BitVec.ofNat 16 (v.extractLsb' 0 8).toNat = v &&& 0x00FF#16 := by
  have hv := v.isLt
  apply BitVec.eq_of_toNat_eq
  have hmask : (0x00FF#16).toNat = 2 ^ 8 - 1 := rfl
  rw [extract_low_toNat, BitVec.toNat_ofNat, BitVec.toNat_and, hmask, Nat.and_two_pow_sub_one_eq_mod]
  omega

/-- A class map entry's words after a write of one of them. -/
theorem ClassEntry.word_write (c : ClassEntry) (v : Word) {k j : Nat} (hk : k < 2) (hj : j < 2) :
    (c.write v k).word j = if k = j then (if k = 1 then v &&& 0x00FF#16 else v) else c.word j := by
  obtain rfl | rfl : k = 0 ∨ k = 1 := by omega
  · obtain rfl | rfl : j = 0 ∨ j = 1 := by omega
    · exact two_bytes v
    · rfl
  · obtain rfl | rfl : j = 0 ∨ j = 1 := by omega
    · rfl
    · exact low_byte_word v

/-- The slot words that a host writes as they stand. -/
def hostSlotWord (k : Nat) : Prop := (2 ≤ k ∧ k ≤ 4) ∨ (8 ≤ k ∧ k < 24)

theorem Slot.word_data (c : Slot) {k : Nat} (h : 8 ≤ k ∧ k < 24) : c.word k = c.data[k - 8]'(by omega) := by
  obtain ⟨i, rfl⟩ : ∃ i, k = i + 8 := ⟨k - 8, by omega⟩
  exact dif_pos h

theorem Slot.write_data (c : Slot) (v : Word) {k : Nat} (h : 8 ≤ k ∧ k < 24) :
    c.write v k = { c with data := c.data.set (k - 8) v (by omega) } := by
  obtain ⟨i, rfl⟩ : ∃ i, k = i + 8 := ⟨k - 8, by omega⟩
  exact dif_pos h

/-- A slot's words after a write of one that the host writes. -/
theorem Slot.word_write (c : Slot) (v : Word) {k j : Nat} (hk : hostSlotWord k) (hj : j ≤ 4 ∨ (8 ≤ j ∧ j < 24)) :
    (c.write v k).word j = if k = j then v else c.word j := by
  rcases hk with hk | hk
  · rcases hj with hj | hj
    · obtain rfl | rfl | rfl : k = 2 ∨ k = 3 ∨ k = 4 := by omega
      · interval_cases j
        iterate 2 rfl
        exact two_bytes v
        iterate 2 rfl
      · interval_cases j <;> rfl
      · interval_cases j <;> rfl
    · rw [Slot.word_data _ hj, Slot.word_data _ hj, if_neg (by omega)]
      obtain rfl | rfl | rfl : k = 2 ∨ k = 3 ∨ k = 4 := by omega
      iterate 3 rfl
  · rw [Slot.write_data c v hk]
    rcases hj with hj | hj
    · rw [if_neg (by omega)]
      interval_cases j <;> rfl
    · rw [Slot.word_data _ hj, Slot.word_data _ hj, Vector.getElem_set]
      exact if_congr (by omega) rfl rfl

end Sys2Proof.Machine
end

section
/-! PROOFS. A host write dropped, stored or taken as its word's own event (sections 8.2, 8.3, 8.5 and 9.1). -/

namespace Sys2Proof.Machine

variable {s : State} {addr : BitVec 11}

/-! ### Whether the host is the writer (section 8.2) -/

theorem State.hostWrites_of_param {k : Nat} (h : areaOf addr = .param k) : s.hostWrites addr = !s.port.run := by
  rw [State.hostWrites, h]

theorem State.hostWrites_of_classMap {c : Fin 64} {k : Nat} (h : areaOf addr = .classMap c k) :
    s.hostWrites addr = !s.port.run := by
  rw [State.hostWrites, h]

theorem State.hostWrites_of_record {k : Nat} (h : areaOf addr = .record k) : s.hostWrites addr = false := by
  rw [State.hostWrites, h]

theorem State.hostWrites_of_directory {n : Name} {k : Nat} (h : areaOf addr = .directory n k) :
    s.hostWrites addr = false := by
  rw [State.hostWrites, h]

theorem State.hostWrites_of_unlisted (h : Area.unlisted.Lists addr.toNat) : s.hostWrites addr = false := by
  rw [State.hostWrites, areaOf_unlisted h]

/-- The host's right to write a slot's word. -/
def Slot.hostMay (t : Slot) (k : Nat) : Prop :=
  k = 0 ∨ (2 ≤ k ∧ k ≤ 4) ∨ (8 ≤ k ∧ (t.phase = .free ∨ t.phase = .done))

theorem State.hostWrites_slot_iff {j : SlotNo} {k : Nat} (h : areaOf addr = .slot j k) :
    s.hostWrites addr = true ↔ (s.slot j).hostMay k := by
  have hl := areaOf_lists addr
  rw [h] at hl
  obtain ⟨-, hk⟩ := hl
  rw [State.hostWrites, h, Slot.hostMay]
  dsimp only
  rcases hk with hk | hk
  · interval_cases k <;> simp
  · rw [if_neg (by omega), if_neg (by omega), decide_eq_true_iff]
    constructor
    · exact fun hp => Or.inr (Or.inr ⟨hk.1, hp⟩)
    · rintro (hp | hp | hp)
      · omega
      · omega
      · exact hp.2

theorem State.hostWrites_of_tell {j : SlotNo} (h : areaOf addr = .slot j 1) : s.hostWrites addr = false := by
  rw [State.hostWrites, h]
  rfl

/-! ### The write carried out -/

theorem exec_hostWrite_of_stored {area : Area} (harea : areaOf addr = area) (h : s.hostWrites addr = true) (v : Word) :
    exec (.hostWrite addr v) s = .next (s.storeWord area v) := by
  rw [exec_hostWrite, h, harea]
  rfl

/-- The state with the parameter words given. -/
def State.withParams (s : State) (p : Params) : State := { s with port := { s.port with params := p } }

/-- The state with a class map entry given. -/
def State.withClass (s : State) (c : Fin 64) (e : ClassEntry) : State :=
  { s with port := { s.port with classMap := s.port.classMap.set c.val e c.isLt } }

theorem exec_hostWrite_param {k : Nat} (h : areaOf addr = .param k) (hr : s.port.run = false) (v : Word) :
    exec (.hostWrite addr v) s = .next (s.withParams (s.port.params.store v k)) := by
  have hw : s.hostWrites addr = true := by rw [State.hostWrites_of_param h, hr]; rfl
  exact exec_hostWrite_of_stored h hw v

theorem exec_hostWrite_classMap {c : Fin 64} {k : Nat} (h : areaOf addr = .classMap c k) (hr : s.port.run = false)
    (v : Word) : exec (.hostWrite addr v) s = .next (s.withClass c (s.port.classMap[c].write v k)) := by
  have hw : s.hostWrites addr = true := by rw [State.hostWrites_of_classMap h, hr]; rfl
  exact exec_hostWrite_of_stored h hw v

theorem exec_hostWrite_slot {j : SlotNo} {k : Nat} (h : areaOf addr = .slot j k) (hk : k ≠ 0)
    (hp : (s.slot j).hostMay k) (v : Word) :
    exec (.hostWrite addr v) s = .next (s.putSlot j ((s.slot j).write v k)) := by
  refine (exec_hostWrite_of_stored h (State.hostWrites_slot_iff h |>.2 hp) v).trans (congrArg Host.Outcome.next ?_)
  exact if_neg hk

theorem exec_hostWrite_ask {j : SlotNo} (h : areaOf addr = .slot j 0) (v : Word) :
    exec (.hostWrite addr v) s = .next (s.writeAsk j v) := by
  refine (exec_hostWrite_of_stored h (State.hostWrites_slot_iff h |>.2 (Or.inl rfl)) v).trans
    (congrArg Host.Outcome.next ?_)
  unfold State.storeWord
  exact if_pos rfl

/-! ### What the host reads after a stored write -/

theorem areaOf_ne {b : BitVec 11} {area : Area} (h : areaOf addr = area) (hu : area ≠ .unlisted) (hb : b ≠ addr) :
    areaOf b ≠ area :=
  fun hbarea => hb (areaOf_injective (hbarea.trans h.symm) (h ▸ hu))

theorem readWord_withParams_store {k : Nat} (h : areaOf addr = .param k) (v : Word) (b : BitVec 11) :
    (s.withParams (s.port.params.store v k)).readWord b = if b = addr then paramMask k v else s.readWord b := by
  have hk : k < 17 := by
    have hl := areaOf_lists addr
    rw [h] at hl
    exact hl.2
  split
  next hb =>
    subst hb
    rw [State.readWord, h]
    change (Params.word? (s.port.params.store v k) k).getD 0 = _
    rw [Params.word?_store _ v hk, if_pos rfl]
    rfl
  next hb =>
    have hne := areaOf_ne h (by simp) hb
    unfold State.readWord
    cases hbarea : areaOf b with
    | param j =>
      have hkj : k ≠ j := fun hkj => hne (hkj ▸ hbarea)
      change (Params.word? (s.port.params.store v k) j).getD 0 = _
      rw [Params.word?_store _ v hk, if_neg hkj]
    | _ => rfl

theorem readWord_withClass_write {c : Fin 64} {k : Nat} (h : areaOf addr = .classMap c k) (v : Word) (b : BitVec 11) :
    (s.withClass c (s.port.classMap[c].write v k)).readWord b =
      if b = addr then (if k = 1 then v &&& 0x00FF#16 else v) else s.readWord b := by
  have hk : k < 2 := by
    have hl := areaOf_lists addr
    rw [h] at hl
    exact hl.2
  split
  next hb =>
    subst hb
    rw [State.readWord, h]
    change ((s.port.classMap.set c.val (s.port.classMap[c].write v k) c.isLt)[c.val]).word k = _
    rw [Vector.getElem_set_self, ClassEntry.word_write _ v hk hk, if_pos rfl]
  next hb =>
    have hne := areaOf_ne h (by simp) hb
    unfold State.readWord
    cases hbarea : areaOf b with
    | classMap d j =>
      have hj : j < 2 := by
        have hl := areaOf_lists b
        rw [hbarea] at hl
        exact hl.2
      change ((s.port.classMap.set c.val (s.port.classMap[c].write v k) c.isLt)[d.val]).word j =
        s.port.classMap[d.val].word j
      rw [Vector.getElem_set]
      split
      next hcd =>
        obtain rfl := Fin.ext hcd
        have hkj : k ≠ j := fun hkj => hne (hkj ▸ hbarea)
        exact (ClassEntry.word_write _ v hk hj).trans (if_neg hkj)
      next => rfl
    | _ => rfl

theorem readWord_putSlot_write {i : SlotNo} {k : Nat} (h : areaOf addr = .slot i k) (hk : hostSlotWord k) (v : Word)
    (b : BitVec 11) :
    (s.putSlot i ((s.slot i).write v k)).readWord b = if b = addr then v else s.readWord b := by
  have hkl : k ≤ 4 ∨ (8 ≤ k ∧ k < 24) := hk.imp And.right id
  split
  next hb =>
    subst hb
    rw [State.readWord, h]
    change ((s.putSlot i ((s.slot i).write v k)).slot i).word k = _
    rw [State.slot_putSlot, if_pos rfl, Slot.word_write _ v hk hkl, if_pos rfl]
  next hb =>
    have hne := areaOf_ne h (by simp) hb
    unfold State.readWord
    cases hbarea : areaOf b with
    | slot j l =>
      have hl := areaOf_lists b
      rw [hbarea] at hl
      change ((s.putSlot i ((s.slot i).write v k)).slot j).word l = (s.slot j).word l
      by_cases hij : i = j
      · subst hij
        have hkl : k ≠ l := fun hkl => hne (hkl ▸ hbarea)
        rw [State.slot_putSlot, if_pos rfl, Slot.word_write _ v hk hl.2, if_neg hkl]
      · rw [State.slot_putSlot, if_neg hij]
    | _ => rfl

end Sys2Proof.Machine
end

section
/-! PROOFS. What a host write does to the state, word by word (R134, R135, R137, R139 to R141, R145). -/

namespace Sys2Proof.Machine

variable {s : State} {addr : BitVec 11}

/-! ### Dropped writes -/

/-- The addresses at which the host is not the writer. -/
def HostDrops (s : State) (a : Nat) : Prop :=
  (0x0C0 ≤ a ∧ a ≤ 0x100) ∨ (0x13F ≤ a ∧ a ≤ 0x3FF) ∨ (0x011 ≤ a ∧ a ≤ 0x03F) ∨ a = 0x500 ∨
    0x504 ≤ a ∨ (a < 0x0C0 ∧ s.port.run = true) ∨
    (0x400 ≤ a ∧ a < 0x500 ∧ (a % 32 = 1 ∨ (5 ≤ a % 32 ∧ a % 32 ≤ 7) ∨ 24 ≤ a % 32)) ∨
    (∃ k : SlotNo, 0x408 + 32 * k.val ≤ a ∧ a ≤ 0x417 + 32 * k.val ∧
      ((s.slot k).phase = .waiting ∨ (s.slot k).phase = .onLine))

/-- The class map entry and the word of it at an address of the class map. -/
theorem exists_classMap (h : 0x040 ≤ addr.toNat ∧ addr.toNat < 0x0C0) :
    ∃ c : Fin 64, areaOf addr = .classMap c (addr.toNat % 2) :=
  ⟨⟨(addr.toNat - 0x040) / 2, by omega⟩, areaOf_classMap (by omega) (by dsimp only; omega)⟩

/-- The slot and the word of it at an address of the request slots. -/
theorem exists_slot (h : 0x400 ≤ addr.toNat ∧ addr.toNat < 0x500)
    (hk : addr.toNat % 32 ≤ 4 ∨ (8 ≤ addr.toNat % 32 ∧ addr.toNat % 32 < 24)) :
    ∃ j : SlotNo, areaOf addr = .slot j (addr.toNat % 32) :=
  ⟨⟨(addr.toNat - 0x400) / 32, by omega⟩, areaOf_slot hk (by dsimp only; omega)⟩

theorem hostWrites_of_hostDrops (h : HostDrops s addr.toNat) : s.hostWrites addr = false := by
  rcases h with h | h | h | h | h | ⟨ha, hr⟩ | ⟨h1, h2, h3⟩ | ⟨k, h1, h2, hp⟩
  · by_cases hr : addr.toNat < 0x100
    · exact State.hostWrites_of_record (k := addr.toNat - 0x0C0) (areaOf_record (by omega) (by omega))
    · exact State.hostWrites_of_unlisted (by simp only [Area.Lists]; omega)
  · by_cases hd : 0x208 ≤ addr.toNat ∧ addr.toNat ≤ 0x3F7
    · exact State.hostWrites_of_directory (n := ⟨(addr.toNat - 0x208) / 8, by omega⟩)
        (k := (addr.toNat - 0x208) % 8) (areaOf_directory (by omega) (by dsimp only; omega))
    · exact State.hostWrites_of_unlisted (by simp only [Area.Lists]; omega)
  · exact State.hostWrites_of_unlisted (by simp only [Area.Lists]; omega)
  · exact State.hostWrites_of_ident (areaOf_of_lists h)
  · exact State.hostWrites_of_unlisted (by simp only [Area.Lists]; omega)
  · by_cases hp : addr.toNat < 0x011
    · rw [State.hostWrites_of_param (areaOf_param hp), hr]
      rfl
    by_cases hc : 0x040 ≤ addr.toNat
    · obtain ⟨c, hc⟩ := exists_classMap ⟨hc, ha⟩
      rw [State.hostWrites_of_classMap hc, hr]
      rfl
    · exact State.hostWrites_of_unlisted (by simp only [Area.Lists]; omega)
  · by_cases ht : addr.toNat % 32 = 1
    · obtain ⟨j, hj⟩ := exists_slot ⟨h1, h2⟩ (by omega)
      exact State.hostWrites_of_tell (ht ▸ hj)
    · exact State.hostWrites_of_unlisted (by simp only [Area.Lists]; omega)
  · have harea : areaOf addr = .slot k (addr.toNat - 0x400 - 32 * k.val) := areaOf_slot (by omega) (by omega)
    refine Bool.eq_false_iff.2 fun hw => ?_
    rcases (State.hostWrites_slot_iff harea).1 hw with h | h | ⟨-, hd⟩
    · omega
    · omega
    · rcases hp with hp | hp <;> simp [hp] at hd

/-! ### Stored writes -/

/-- The addresses of the words that a host write stores as they stand. -/
def HostStores (s : State) (a : Nat) : Prop :=
  ((a < 0x011 ∨ (0x040 ≤ a ∧ a < 0x0C0)) ∧ s.port.run = false) ∨
    (0x400 ≤ a ∧ a < 0x500 ∧ 2 ≤ a % 32 ∧ a % 32 ≤ 4) ∨
    (∃ k : SlotNo, 0x408 + 32 * k.val ≤ a ∧ a ≤ 0x417 + 32 * k.val ∧
      ((s.slot k).phase = .free ∨ (s.slot k).phase = .done))

/-- A stored word with its unused bits 0. -/
def storedWord (a : Nat) (v : Word) : Word :=
  if a = 0x00B then v &&& 0x000F#16 else if 0x040 ≤ a ∧ a < 0x0C0 ∧ a % 2 = 1 then v &&& 0x00FF#16 else v

/-- A stored write changes the word's field alone: the word reads as written and every other one as before. -/
def StoredAt (s : State) (addr : BitVec 11) (v : Word) (t : State) : Prop :=
  exec (.hostWrite addr v) s = .next t ∧ t.readWord addr = storedWord addr.toNat v ∧
    (∀ b, b ≠ addr → t.readWord b = s.readWord b) ∧
    t.cm = s.cm ∧ t.feed = s.feed ∧ t.line = s.line ∧ t.walker = s.walker ∧ t.dir = s.dir ∧
    t.roll = s.roll ∧ t.given = s.given ∧ t.port.alert = s.port.alert

theorem storedWord_of_ge {a : Nat} (h : 0x400 ≤ a) (v : Word) : storedWord a v = v := by
  rw [storedWord, if_neg (by omega), if_neg (by omega)]

theorem storedAt_slot {j : SlotNo} {k : Nat} (h : areaOf addr = .slot j k) (hk : hostSlotWord k)
    (hp : (s.slot j).hostMay k) (v : Word) : StoredAt s addr v (s.putSlot j ((s.slot j).write v k)) := by
  have hl := areaOf_lists addr
  rw [h] at hl
  obtain ⟨ha, -⟩ := hl
  have hk0 : k ≠ 0 := by rcases hk with hk | hk <;> omega
  refine ⟨exec_hostWrite_slot h hk0 hp v, ?_, fun b hb => ?_, rfl, rfl, rfl, rfl, rfl, rfl, rfl, rfl⟩
  · rw [readWord_putSlot_write h hk, if_pos rfl, storedWord_of_ge (by omega)]
  · rw [readWord_putSlot_write h hk, if_neg hb]

theorem storedAt_of_hostStores (h : HostStores s addr.toNat) (v : Word) : ∃ t, StoredAt s addr v t := by
  rcases h with ⟨ha | ha, hr⟩ | ⟨h1, h2, h3⟩ | ⟨k, h1, h2, hp⟩
  · have harea := areaOf_param ha
    refine ⟨_, exec_hostWrite_param harea hr v, ?_, fun b hb => ?_, rfl, rfl, rfl, rfl, rfl, rfl, rfl, rfl⟩
    · rw [readWord_withParams_store harea, if_pos rfl, paramMask, storedWord]
      exact if_congr Iff.rfl rfl (if_neg (by omega)).symm
    · rw [readWord_withParams_store harea, if_neg hb]
  · obtain ⟨c, harea⟩ := exists_classMap ha
    refine ⟨_, exec_hostWrite_classMap harea hr v, ?_, fun b hb => ?_, rfl, rfl, rfl, rfl, rfl, rfl, rfl, rfl⟩
    · rw [readWord_withClass_write harea, if_pos rfl]
      exact ((if_neg (by omega)).trans (if_congr (by omega) rfl rfl)).symm
    · rw [readWord_withClass_write harea, if_neg hb]
  · obtain ⟨j, harea⟩ := exists_slot ⟨h1, h2⟩ (Or.inl h3.2)
    exact ⟨_, storedAt_slot harea (Or.inl h3) (Or.inr (Or.inl h3)) v⟩
  · have harea : areaOf addr = .slot k (addr.toNat - 0x400 - 32 * k.val) := areaOf_slot (by omega) (by omega)
    exact ⟨_, storedAt_slot harea (Or.inr (by omega)) (Or.inr (Or.inr ⟨by omega, hp⟩)) v⟩

/-! ### The next state of each stored write -/

theorem byte_eq_low {low : Byte} {v : Word} (h : low.toNat = v.toNat % 256) : v.extractLsb' 0 8 = low :=
  BitVec.eq_of_toNat_eq ((extract_low_toNat v).trans h.symm)

theorem byte_eq_high {high : Byte} {v : Word} (h : high.toNat = v.toNat / 256) : v.extractLsb' 8 8 = high :=
  BitVec.eq_of_toNat_eq ((extract_high_toNat v).trans h.symm)

theorem params_store_of_words {p q : Params} {k : Nat} {v : Word} (hk : k < 17)
    (h : q.words = p.words.set k (if k = 0x00B then v &&& 0x000F#16 else v)) : p.store v k = q :=
  Params.words_injective ((Params.words_store p v hk).trans h.symm)

/-! ### Writes that are another row's event (log 20) -/

theorem askIntent_toNat (v : Word) : (v.extractLsb' 8 2).toNat = v.toNat / 256 % 4 := by
  rw [BitVec.extractLsb'_toNat, Nat.shiftRight_eq_div_pow]

theorem writeAsk_post {v : Word} (h : v.toNat / 256 % 4 = 1) (k : SlotNo) (s : State) :
    s.writeAsk k v = s.post k (askTicket v) := by
  have hi : askIntent v = .post := by
    unfold askIntent
    generalize hi : (v.extractLsb' 8 2).toNat = i
    obtain rfl := (hi.symm.trans (askIntent_toNat v)).trans h
    rfl
  unfold State.writeAsk
  rw [hi]

theorem writeAsk_withdraw {v : Word} (h : v.toNat / 256 % 4 = 2) (k : SlotNo) (s : State) :
    s.writeAsk k v = s.withdrawAsk k (askTicket v) := by
  have hi : askIntent v = .withdraw := by
    unfold askIntent
    generalize hi : (v.extractLsb' 8 2).toNat = i
    obtain rfl := (hi.symm.trans (askIntent_toNat v)).trans h
    rfl
  unfold State.writeAsk
  rw [hi]

theorem writeAsk_other {v : Word} (h : v.toNat / 256 % 4 = 0 ∨ v.toNat / 256 % 4 = 3) (k : SlotNo) (s : State) :
    s.writeAsk k v = s.badAsk k (v.toNat / 256 % 4) (askTicket v) := by
  have hi : askIntent v = .other := by
    unfold askIntent
    generalize hi : (v.extractLsb' 8 2).toNat = i
    have hv := hi.symm.trans (askIntent_toNat v)
    obtain rfl | rfl : i = 0 ∨ i = 3 := by omega
    iterate 2 rfl
  unfold State.writeAsk
  rw [hi, askIntent_toNat]

theorem exec_hostWrite_runctl (v : Word) (s : State) :
    exec (.hostWrite 0x501#11 v) s = .next (if v.getLsbD 0 then s.writeRunOne else s.writeRunZero) :=
  exec_hostWrite_of_stored areaOf_runctl (by rw [State.hostWrites, areaOf_runctl]) v

theorem getLsbD_zero_iff (v : Word) : v.getLsbD 0 = decide (v.toNat % 2 = 1) := by
  rw [BitVec.getLsbD, Nat.testBit_zero]

/-! ### The three parts of the statement about writes -/

theorem hostWrite_dropped_or_stored (s : State) (addr : BitVec 11) (v : Word) (a : Nat) (ha : a = addr.toNat) :
    (HostDrops s a → exec (.hostWrite addr v) s = .next { s with
      port := { s.port with alert := s.port.alert ||| 32#7 } }) ∧
    (HostStores s a → ∃ t, exec (.hostWrite addr v) s = .next t ∧ t.readWord addr = storedWord a v ∧
      (∀ b, b ≠ addr → t.readWord b = s.readWord b) ∧
      t.cm = s.cm ∧ t.feed = s.feed ∧ t.line = s.line ∧ t.walker = s.walker ∧ t.dir = s.dir ∧
      t.roll = s.roll ∧ t.given = s.given ∧ t.port.alert = s.port.alert) := by
  subst ha
  exact ⟨fun h => exec_hostWrite_of_dropped (hostWrites_of_hostDrops h) v, fun h => storedAt_of_hostStores h v⟩

theorem hostWrite_param_next (s : State) (v : Word) (addr : BitVec 11) (hr : s.port.run = false)
    (ha : addr.toNat < 0x011) (p : Params)
    (hp : p.words = s.port.params.words.set addr.toNat (if addr.toNat = 0x00B then v &&& 0x000F#16 else v)) :
    exec (.hostWrite addr v) s = .next { s with port := { s.port with params := p } } :=
  (exec_hostWrite_param (areaOf_param ha) hr v).trans
    (congrArg (fun p => Host.Outcome.next (s.withParams p)) (params_store_of_words ha hp))

theorem hostWrite_classMap_next (s : State) (v : Word) (addr : BitVec 11) {low high : Byte}
    (hlow : low.toNat = v.toNat % 256) (hhigh : high.toNat = v.toNat / 256) (c : Fin 64) (hr : s.port.run = false) :
    (addr.toNat = 0x040 + 2 * c.val → exec (.hostWrite addr v) s = .next { s with
      port := { s.port with
        classMap := s.port.classMap.set c.val { s.port.classMap[c] with low := low, high := high } c.isLt } }) ∧
    (addr.toNat = 0x041 + 2 * c.val → exec (.hostWrite addr v) s = .next { s with
      port := { s.port with
        classMap := s.port.classMap.set c.val { s.port.classMap[c] with role := low } c.isLt } }) := by
  obtain rfl := byte_eq_low hlow
  obtain rfl := byte_eq_high hhigh
  constructor
  · intro ha
    exact exec_hostWrite_classMap (areaOf_classMap (by omega) (k := 0) (by omega)) hr v
  · intro ha
    exact exec_hostWrite_classMap (areaOf_classMap (by omega) (k := 1) (by omega)) hr v

theorem hostWrite_slot_next (s : State) (v : Word) (addr : BitVec 11) {low high : Byte}
    (hlow : low.toNat = v.toNat % 256) (hhigh : high.toNat = v.toNat / 256) (k : SlotNo) :
    (addr.toNat = 0x402 + 32 * k.val → exec (.hostWrite addr v) s =
      .next (s.putSlot k { s.slot k with kind := low, name := high })) ∧
    (addr.toNat = 0x403 + 32 * k.val → exec (.hostWrite addr v) s = .next (s.putSlot k { s.slot k with argA := v })) ∧
    (addr.toNat = 0x404 + 32 * k.val → exec (.hostWrite addr v) s = .next (s.putSlot k { s.slot k with count := v })) ∧
    (∀ j : Fin 16, addr.toNat = 0x408 + 32 * k.val + j.val → (s.slot k).phase = .free ∨ (s.slot k).phase = .done →
      exec (.hostWrite addr v) s =
        .next (s.putSlot k { s.slot k with data := (s.slot k).data.set j.val v j.isLt })) := by
  obtain rfl := byte_eq_low hlow
  obtain rfl := byte_eq_high hhigh
  refine ⟨fun ha => ?_, fun ha => ?_, fun ha => ?_, fun j ha hp => ?_⟩
  · exact exec_hostWrite_slot (areaOf_slot (k := 2) (by omega) (by omega)) (by omega) (Or.inr (by omega)) v
  · exact exec_hostWrite_slot (areaOf_slot (k := 3) (by omega) (by omega)) (by omega) (Or.inr (by omega)) v
  · exact exec_hostWrite_slot (areaOf_slot (k := 4) (by omega) (by omega)) (by omega) (Or.inr (by omega)) v
  · have hj := j.isLt
    refine (exec_hostWrite_slot (areaOf_slot (k := j.val + 8) (by omega) (by omega)) (by omega)
      (Or.inr (Or.inr ⟨by omega, hp⟩)) v).trans ?_
    rw [Slot.write_data _ v (by omega)]
    rfl

theorem hostWrite_ask_event (s : State) (v : Word) (addr : BitVec 11) (k : SlotNo) (ticket : Byte)
    (ha : addr.toNat = 0x400 + 32 * k.val) (ht : ticket.toNat = v.toNat % 256) :
    (v.toNat / 256 % 4 = 1 → ∀ c ∈ postsOf k ticket, exec (.hostWrite addr v) s = exec c s) ∧
    (v.toNat / 256 % 4 = 2 → exec (.hostWrite addr v) s = exec (.withdraw k ticket) s) ∧
    (v.toNat / 256 % 4 = 0 → exec (.hostWrite addr v) s = exec (.askInvalidIntent k ticket false) s) ∧
    (v.toNat / 256 % 4 = 3 → exec (.hostWrite addr v) s = exec (.askInvalidIntent k ticket true) s) := by
  obtain rfl := byte_eq_low ht
  have hw := exec_hostWrite_ask (s := s) (areaOf_slot (j := k) (k := 0) (by omega) ha) v
  refine ⟨fun h c hc => ?_, fun h => ?_, fun h => ?_, fun h => ?_⟩
  · rw [hw, exec_post hc, writeAsk_post h]
    rfl
  · rw [hw, writeAsk_withdraw h]
    rfl
  · rw [hw, writeAsk_other (Or.inl h), h]
    rfl
  · rw [hw, writeAsk_other (Or.inr h), h]
    rfl

theorem hostWrite_seen_event (s : State) (v : Word) (addr : BitVec 11) (n : Name)
    (ha : addr.toNat = 0x101 + n.val) : exec (.hostWrite addr v) s = exec (.acknowledgement n v) s :=
  exec_hostWrite_of_stored (areaOf_seen ha) (by rw [State.hostWrites, areaOf_seen ha]) v

theorem hostWrite_register_event (s : State) (v : Word) :
    (v.toNat % 2 = 1 → exec (.hostWrite 0x501#11 v) s = exec .runEntry s) ∧
    (v.toNat % 2 = 0 → exec (.hostWrite 0x501#11 v) s = exec .softHold s) ∧
    exec (.hostWrite 0x502#11 v) s = exec (.alertClear v) s ∧
    exec (.hostWrite 0x503#11 v) s = exec (.alertmaskWrite v) s := by
  refine ⟨fun h => ?_, fun h => ?_,
    exec_hostWrite_of_stored areaOf_alert (by rw [State.hostWrites, areaOf_alert]) v,
    exec_hostWrite_of_stored areaOf_alertmask (by rw [State.hostWrites, areaOf_alertmask]) v⟩
  · rw [exec_hostWrite_runctl, getLsbD_zero_iff, if_pos (by simp [h]), exec_runEntry]
  · rw [exec_hostWrite_runctl, getLsbD_zero_iff, if_neg (by simp [h]), exec_softHold]

end Sys2Proof.Machine
end

section
/-! PROOFS. The layouts that a host reads (chapter 11), and the statement about host writes and reads. -/

namespace Sys2Proof.Machine

variable {s : State}

/-! ### Codes and flags (sections 11.3 to 11.5) -/

theorem couplingCode_unique {f : CouplingState → Nat}
    (h : [CouplingState.dormant, .opened, .making, .powering, .discovering, .serving, .faulted].map f =
      [0, 1, 2, 3, 4, 5, 6]) : f = CouplingState.code := by
  simp only [List.map_cons, List.map_nil, List.cons.injEq, and_true] at h
  obtain ⟨h0, h1, h2, h3, h4, h5, h6⟩ := h
  funext st
  cases st <;> assumption

theorem entryCode_unique {f : EntryState → Nat}
    (h : [EntryState.vacant, .offered, .held, .bound, .stale, .disputed, .retiring].map f = [0, 1, 2, 3, 4, 5, 6]) :
    f = EntryState.code := by
  simp only [List.map_cons, List.map_nil, List.cons.injEq, and_true] at h
  obtain ⟨h0, h1, h2, h3, h4, h5, h6⟩ := h
  funext st
  cases st <;> assumption

theorem phaseCode_unique {f : Phase → Nat} (h : [Phase.free, .waiting, .onLine, .done].map f = [0, 1, 2, 3]) :
    f = Phase.code := by
  simp only [List.map_cons, List.map_nil, List.cons.injEq, and_true] at h
  obtain ⟨h0, h1, h2, h3⟩ := h
  funext p
  cases p <;> assumption

theorem flag_unique {f : Bool → Nat} (h : f true = 1 ∧ f false = 0) : f = Bool.toNat := by
  funext b
  cases b
  · exact h.2
  · exact h.1

theorem bitOf_eq (b : Bool) (k : Nat) : bitOf b k = 2 ^ k * b.toNat := by
  cases b
  · rfl
  · exact (Nat.mul_one _).symm

theorem CouplingState.code_le (st : CouplingState) : st.code ≤ 6 := by cases st <;> decide
theorem FaultCause.code_le (c : FaultCause) : c.code ≤ 2 := by cases c <;> decide
theorem TripStage.code_le (t : TripStage) : t.code ≤ 2 := by cases t <;> decide
theorem EntryState.code_le (st : EntryState) : st.code ≤ 6 := by cases st <;> decide
theorem Phase.code_le (p : Phase) : p.code ≤ 3 := by cases p <;> decide
theorem Result.code_le (r : Result) : r.code ≤ 14 := by cases r <;> decide

/-- The results in the order of their codes. -/
def allResults : List Result :=
  [.ok, .notRunning, .badRequest, .notCoupled, .noDevice, .notReady, .nameBusy, .nameTaken, .noAnswer, .garbled,
    .decoupled, .toolFault, .timedOut, .withdrawn, .wrongState]

theorem Result.code_of_getElem? {code : Nat} {r : Result} (h : allResults[code]? = some r) : r.code = code := by
  obtain ⟨hlt, rfl⟩ := List.getElem?_eq_some_iff.1 h
  change code < 15 at hlt
  interval_cases code <;> rfl

/-! ### The words as numbers -/

/-- The number that a host reads at an address. -/
def State.wordNat (s : State) (a : Nat) : Nat := (s.readWord (BitVec.ofNat 11 a)).toNat

theorem areaOf_ofNat {a : Nat} {area : Area} (ha : a < 2048) (h : area.Lists a) :
    areaOf (BitVec.ofNat 11 a) = area := by
  refine areaOf_of_lists ?_
  rw [BitVec.toNat_ofNat, Nat.mod_eq_of_lt ha]
  exact h

theorem State.wordNat_param {k : Nat} (hk : k < 17) : s.wordNat k = (s.port.params.words[k]'hk).toNat := by
  have harea : areaOf (BitVec.ofNat 11 k) = .param k := areaOf_ofNat (by omega) ⟨rfl, hk⟩
  rw [State.wordNat, State.readWord, harea]
  dsimp only
  rw [Params.word?_eq, List.getElem?_eq_getElem (show k < s.port.params.words.length from hk)]
  rfl

theorem State.wordNat_classMap {a k : Nat} (c : Fin 64) (hk : k < 2) (h : a = 0x040 + 2 * c.val + k) :
    s.wordNat a = (s.port.classMap[c].word k).toNat := by
  have harea : areaOf (BitVec.ofNat 11 a) = .classMap c k := areaOf_ofNat (by omega) ⟨h, hk⟩
  rw [State.wordNat, State.readWord, harea]

theorem State.wordNat_record {a k : Nat} (hk : k < 0x040) (h : a = 0x0C0 + k) :
    s.wordNat a = (s.recordWord k).toNat := by
  have harea : areaOf (BitVec.ofNat 11 a) = .record k := areaOf_ofNat (by omega) ⟨h, hk⟩
  rw [State.wordNat, State.readWord, harea]

theorem State.wordNat_seen (n : Name) : s.wordNat (0x101 + n.val) = (s.port.seen[n]).toNat := by
  have harea : areaOf (BitVec.ofNat 11 (0x101 + n.val)) = .seen n := areaOf_ofNat (by omega) rfl
  rw [State.wordNat, State.readWord, harea]

theorem State.wordNat_directory {a k : Nat} (n : Name) (hk : k < 8) (h : a = 0x208 + 8 * n.val + k) :
    s.wordNat a = ((s.entry n).word k).toNat := by
  have harea : areaOf (BitVec.ofNat 11 a) = .directory n k := areaOf_ofNat (by omega) ⟨h, hk⟩
  rw [State.wordNat, State.readWord, harea]

theorem State.wordNat_slot {a k : Nat} (j : SlotNo) (hk : k ≤ 4 ∨ (8 ≤ k ∧ k < 24)) (h : a = 0x400 + 32 * j.val + k) :
    s.wordNat a = ((s.slot j).word k).toNat := by
  have harea : areaOf (BitVec.ofNat 11 a) = .slot j k := areaOf_ofNat (by omega) ⟨h, hk⟩
  rw [State.wordNat, State.readWord, harea]

theorem State.wordNat_unlisted {a : Nat} (ha : a < 2048) (h : Area.unlisted.Lists a) : s.wordNat a = 0 := by
  rw [State.wordNat, State.readWord, areaOf_ofNat ha h]
  rfl

/-- A number below 65536 reads as it stands. -/
theorem word_toNat {n : Nat} (h : n < 65536) : (BitVec.ofNat 16 n).toNat = n := by
  rw [BitVec.toNat_ofNat]
  exact Nat.mod_eq_of_lt h

/-! ### The coupling record (section 11.3) -/

theorem CouplingMonitor.word_toNat (c : CouplingMonitor) :
    c.word.toNat = c.state.code + 16 * c.shownFirst.toNat + 32 * c.shownLast.toNat + 64 * c.partialMate.toNat +
      256 * c.cause.code := by
  have h1 := c.state.code_le
  have h2 := c.cause.code_le
  have h3 := c.shownFirst.toNat_le
  have h4 := c.shownLast.toNat_le
  have h5 := c.partialMate.toNat_le
  rw [CouplingMonitor.word, bitOf_eq, bitOf_eq, bitOf_eq]
  exact Machine.word_toNat (by omega)

theorem FeedSupervisor.word_toNat (f : FeedSupervisor) :
    f.word.toNat = f.logicOn.toNat + 2 * f.driveOn.toNat + 4 * f.latch.toNat + 8 * f.pedHigh.toNat := by
  have h1 := f.logicOn.toNat_le
  have h2 := f.driveOn.toNat_le
  have h3 := f.latch.toNat_le
  have h4 := f.pedHigh.toNat_le
  rw [FeedSupervisor.word, bitOf_eq, bitOf_eq, bitOf_eq, bitOf_eq]
  exact (Machine.word_toNat (by omega)).trans (by omega)

theorem TripRecord.word_toNat (t : TripRecord) (h : t.runLength ≤ 255) :
    t.word.toNat = t.stage.code + 16 * t.causes.logic.toNat + 32 * t.causes.drive.toNat + 64 * t.causes.sum.toNat +
      256 * t.runLength := by
  have h1 := t.stage.code_le
  have h3 := t.causes.logic.toNat_le
  have h4 := t.causes.drive.toNat_le
  have h5 := t.causes.sum.toNat_le
  rw [TripRecord.word, bitOf_eq, bitOf_eq, bitOf_eq]
  exact Machine.word_toNat (by omega)

theorem State.stateCount_eq (s : State) (st : EntryState) :
    s.stateCount st = ((List.finRange 62).filter fun n : Name => decide ((s.entry n).state = st)).length :=
  List.countP_eq_length_filter

theorem State.stateCount_le (s : State) (st : EntryState) : s.stateCount st ≤ 62 := by
  rw [State.stateCount_eq]
  exact (List.length_filter_le _ _).trans (List.length_finRange (n := 62)).le

theorem State.wordNat_stateCount (s : State) (st : EntryState) :
    s.wordNat (0x0E0 + st.code) = s.stateCount st := by
  have hle := s.stateCount_le st
  have hword : s.recordWord (0x020 + st.code) = BitVec.ofNat 16 (s.stateCount st) := by cases st <;> rfl
  have hcode := st.code_le
  rw [State.wordNat_record (k := 0x020 + st.code) (by omega) (by omega), hword]
  exact word_toNat (by omega)

theorem recordWord_unused {k : Nat} (h : (0x15 ≤ k ∧ k ≤ 0x17) ∨ k = 0x1E ∨ k = 0x1F ∨ (0x27 ≤ k ∧ k < 0x40)) :
    s.recordWord k = 0 := by
  rcases h with ⟨h1, h2⟩ | rfl | rfl | ⟨h1, h2⟩
  · interval_cases k <;> rfl
  · rfl
  · rfl
  · interval_cases k <;> rfl

/-! ### Entries and slots (sections 11.4 and 11.5) -/

theorem Entry.stateWord_toNat (e : Entry) :
    (e.word 1).toNat = e.state.code + 16 * e.sticky.toNat + 32 * e.conflict.toNat + 64 * e.outside.toNat +
      128 * e.owed.toNat + 256 * e.devstat.toNat := by
  have h1 := e.state.code_le
  have h2 := e.sticky.toNat_le
  have h3 := e.conflict.toNat_le
  have h4 := e.outside.toNat_le
  have h5 := e.owed.toNat_le
  have h6 := e.devstat.isLt
  rw [Entry.word, bitOf_eq, bitOf_eq, bitOf_eq, bitOf_eq]
  exact (word_toNat (by omega)).trans (by omega)

theorem Entry.ident_words (e : Entry) :
    (e.word 2).toNat = e.ident.toNat / 65536 / 65536 ∧ (e.word 3).toNat = e.ident.toNat / 65536 % 65536 ∧
      (e.word 4).toNat = e.ident.toNat % 65536 := by
  have h := e.ident.isLt
  refine ⟨?_, ?_, ?_⟩
  · rw [Entry.word, BitVec.extractLsb'_toNat, Nat.shiftRight_eq_div_pow]
    omega
  · rw [Entry.word, BitVec.extractLsb'_toNat, Nat.shiftRight_eq_div_pow]
  · rw [Entry.word, BitVec.extractLsb'_toNat, Nat.shiftRight_eq_div_pow]
    omega

theorem Slot.tell_toNat (t : Slot) :
    t.tell.toNat = t.ticket.toNat + 256 * t.phase.code + 1024 * t.result.code := by
  have h1 := t.ticket.isLt
  have h2 := t.phase.code_le
  have h3 := t.result.code_le
  rw [Slot.tell]
  exact (word_toNat (by omega)).trans (by omega)

/-- Two bytes as one word, the lower first. -/
theorem bytes_toNat (high low : Byte) :
    (BitVec.ofNat 16 (256 * high.toNat + low.toNat)).toNat = low.toNat + 256 * high.toNat := by
  have h1 := high.isLt
  have h2 := low.isLt
  exact (word_toNat (by omega)).trans (by omega)

/-! ### The layout, area by area -/

theorem wordNat_params (s : State) : (List.range 17).map s.wordNat = s.port.params.words.map BitVec.toNat := by
  refine List.ext_getElem rfl fun k h1 h2 => ?_
  rw [List.getElem_map, List.getElem_map, List.getElem_range]
  exact State.wordNat_param (by simpa using h1)

theorem wordNat_classMap_words (s : State) (c : Fin 64) :
    s.wordNat (0x040 + 2 * c.val) = (s.port.classMap[c]).low.toNat + 256 * (s.port.classMap[c]).high.toNat ∧
      s.wordNat (0x041 + 2 * c.val) = (s.port.classMap[c]).role.toNat := by
  refine ⟨(State.wordNat_classMap (k := 0) c (by omega) (by omega)).trans (bytes_toNat _ _),
    (State.wordNat_classMap (k := 1) c (by omega) (by omega)).trans ?_⟩
  have h := (s.port.classMap[c]).role.isLt
  exact word_toNat (by omega)

theorem wordNat_unused (s : State) {a : Nat}
    (h : (0x011 ≤ a ∧ a ≤ 0x03F) ∨ (0x0D5 ≤ a ∧ a ≤ 0x0D7) ∨ a = 0x0DE ∨ a = 0x0DF ∨
      (0x0E7 ≤ a ∧ a ≤ 0x100) ∨ (0x13F ≤ a ∧ a ≤ 0x207) ∨ (0x3F8 ≤ a ∧ a ≤ 0x3FF) ∨
      (0x400 ≤ a ∧ a < 0x500 ∧ ((5 ≤ a % 32 ∧ a % 32 ≤ 7) ∨ 24 ≤ a % 32)) ∨
      (0x504 ≤ a ∧ a ≤ 0x7FF)) : s.wordNat a = 0 := by
  by_cases hr : 0x0C0 ≤ a ∧ a < 0x100
  · have hk : (0x15 ≤ a - 0x0C0 ∧ a - 0x0C0 ≤ 0x17) ∨ a - 0x0C0 = 0x1E ∨ a - 0x0C0 = 0x1F ∨
        (0x27 ≤ a - 0x0C0 ∧ a - 0x0C0 < 0x40) := by omega
    rw [State.wordNat_record (k := a - 0x0C0) (by omega) (by omega), recordWord_unused hk]
    rfl
  · exact State.wordNat_unlisted (by omega) (by simp only [Area.Lists]; omega)

theorem wordNat_feed_words (s : State) (hrun : s.feed.trip.runLength ≤ 255) (hl : s.feed.pedLogic ≤ 255)
    (hd : s.feed.pedDrive ≤ 255) :
    s.wordNat 0x0C2 = s.feed.logicOn.toNat + 2 * s.feed.driveOn.toNat + 4 * s.feed.latch.toNat +
        8 * s.feed.pedHigh.toNat ∧
      s.wordNat 0x0C3 = s.feed.pedLogic ∧ s.wordNat 0x0C4 = s.feed.pedDrive ∧
      s.wordNat 0x0C5 = s.feed.trip.stage.code + 16 * s.feed.trip.causes.logic.toNat +
        32 * s.feed.trip.causes.drive.toNat + 64 * s.feed.trip.causes.sum.toNat + 256 * s.feed.trip.runLength :=
  ⟨(State.wordNat_record (k := 2) (by omega) rfl).trans s.feed.word_toNat,
    (State.wordNat_record (k := 3) (by omega) rfl).trans (word_toNat (by omega)),
    (State.wordNat_record (k := 4) (by omega) rfl).trans (word_toNat (by omega)),
    (State.wordNat_record (k := 5) (by omega) rfl).trans (s.feed.trip.word_toNat hrun)⟩

theorem wordNat_trip_readings (s : State) (r : Readings) (hr : r = s.feed.trip.readings) (h1 : r.rawLogic ≤ 4095)
    (h2 : r.rawDrive ≤ 4095) (h3 : r.corrLogic ≤ 4095) (h4 : r.corrDrive ≤ 4095) (h5 : r.sum ≤ 8190) :
    [s.wordNat 0x0C6, s.wordNat 0x0C7, s.wordNat 0x0C8, s.wordNat 0x0C9, s.wordNat 0x0CA] =
      [r.rawLogic, r.rawDrive, r.corrLogic, r.corrDrive, r.sum] := by
  subst hr
  rw [State.wordNat_record (k := 0x06) (by omega) rfl, State.wordNat_record (k := 0x07) (by omega) rfl,
    State.wordNat_record (k := 0x08) (by omega) rfl, State.wordNat_record (k := 0x09) (by omega) rfl,
    State.wordNat_record (k := 0x0A) (by omega) rfl]
  simp only [State.recordWord, List.cons.injEq, and_true]
  exact ⟨word_toNat (by omega), word_toNat (by omega), word_toNat (by omega), word_toNat (by omega),
    word_toNat (by omega)⟩

theorem wordNat_live_readings (s : State) (r : Readings) (hr : r = s.feed.live) (h1 : r.rawLogic ≤ 4095)
    (h2 : r.rawDrive ≤ 4095) (h3 : r.corrLogic ≤ 4095) (h4 : r.corrDrive ≤ 4095) (h5 : r.sum ≤ 8190) :
    [s.wordNat 0x0D8, s.wordNat 0x0D9, s.wordNat 0x0DA, s.wordNat 0x0DB, s.wordNat 0x0DC] =
      [r.rawLogic, r.rawDrive, r.corrLogic, r.corrDrive, r.sum] := by
  subst hr
  rw [State.wordNat_record (k := 0x18) (by omega) rfl, State.wordNat_record (k := 0x19) (by omega) rfl,
    State.wordNat_record (k := 0x1A) (by omega) rfl, State.wordNat_record (k := 0x1B) (by omega) rfl,
    State.wordNat_record (k := 0x1C) (by omega) rfl]
  simp only [State.recordWord, List.cons.injEq, and_true]
  exact ⟨word_toNat (by omega), word_toNat (by omega), word_toNat (by omega), word_toNat (by omega),
    word_toNat (by omega)⟩

theorem wordNat_pass_result (s : State) : s.wordNat 0x0CC = passResultCode s.walker.record.result := by
  refine (State.wordNat_record (k := 0x0C) (by omega) rfl).trans (word_toNat ?_)
  cases s.walker.record.result <;> decide

theorem wordNat_pass_counts (s : State) (h : s.walker.record.counts.inRange) :
    [s.wordNat 0x0CD, s.wordNat 0x0CE, s.wordNat 0x0CF, s.wordNat 0x0D0, s.wordNat 0x0D1, s.wordNat 0x0D2,
        s.wordNat 0x0D3, s.wordNat 0x0D4] =
      [s.walker.record.counts.seeks, s.walker.record.counts.found, s.walker.record.counts.returned,
        s.walker.record.counts.reclaimed, s.walker.record.counts.phantom, s.walker.record.counts.unresolved,
        s.walker.record.counts.dropped, s.walker.record.counts.noRoom] := by
  obtain ⟨h1, h2, h3, h4, h5, h6, h7, h8⟩ := h
  rw [State.wordNat_record (k := 0x0D) (by omega) rfl, State.wordNat_record (k := 0x0E) (by omega) rfl,
    State.wordNat_record (k := 0x0F) (by omega) rfl, State.wordNat_record (k := 0x10) (by omega) rfl,
    State.wordNat_record (k := 0x11) (by omega) rfl, State.wordNat_record (k := 0x12) (by omega) rfl,
    State.wordNat_record (k := 0x13) (by omega) rfl, State.wordNat_record (k := 0x14) (by omega) rfl]
  simp only [State.recordWord, List.cons.injEq, and_true]
  exact ⟨word_toNat (by omega), word_toNat (by omega), word_toNat (by omega), word_toNat (by omega),
    word_toNat (by omega), word_toNat (by omega), word_toNat (by omega), word_toNat (by omega)⟩

theorem wordNat_entry (s : State) (n : Name) (e : Entry) (a : Nat) (he : e = s.entry n)
    (ha : a = 0x208 + 8 * n.val) (hkeep : e.keep ≤ 255) (hstrikes : e.strikes ≤ 15) :
    [s.wordNat a, s.wordNat (a + 1), s.wordNat (a + 2), s.wordNat (a + 3), s.wordNat (a + 4), s.wordNat (a + 5),
        s.wordNat (a + 6), s.wordNat (a + 7)] =
      [e.gen.toNat,
        e.state.code + 16 * e.sticky.toNat + 32 * e.conflict.toNat + 64 * e.outside.toNat + 128 * e.owed.toNat +
          256 * e.devstat.toNat,
        e.ident.toNat / 65536 / 65536, e.ident.toNat / 65536 % 65536, e.ident.toNat % 65536,
        e.cls.toNat + 256 * e.role.toNat, e.stamp.toNat, e.strikes + 256 * e.keep] := by
  subst he ha
  rw [State.wordNat_directory (a := 0x208 + 8 * n.val) (k := 0) n (by omega) rfl,
    State.wordNat_directory (k := 1) n (by omega) rfl, State.wordNat_directory (k := 2) n (by omega) rfl, State.wordNat_directory (k := 3) n (by omega) rfl,
    State.wordNat_directory (k := 4) n (by omega) rfl, State.wordNat_directory (k := 5) n (by omega) rfl,
    State.wordNat_directory (k := 6) n (by omega) rfl, State.wordNat_directory (k := 7) n (by omega) rfl]
  obtain ⟨hid0, hid1, hid2⟩ := (s.entry n).ident_words
  rw [Entry.stateWord_toNat, hid0, hid1, hid2]
  simp only [Entry.word, List.cons.injEq, and_true, true_and]
  exact ⟨bytes_toNat _ _, (word_toNat (by omega)).trans (by omega)⟩

theorem wordNat_slot_words (s : State) (k : SlotNo) :
    s.wordNat (0x400 + 32 * k.val) = (s.slot k).ask.toNat ∧
      s.wordNat (0x400 + 32 * k.val + 1) =
        (s.slot k).ticket.toNat + 256 * (s.slot k).phase.code + 1024 * (s.slot k).result.code ∧
      s.wordNat (0x400 + 32 * k.val + 2) = (s.slot k).kind.toNat + 256 * (s.slot k).name.toNat ∧
      s.wordNat (0x400 + 32 * k.val + 3) = (s.slot k).argA.toNat ∧
      s.wordNat (0x400 + 32 * k.val + 4) = (s.slot k).count.toNat ∧
      (∀ j : Fin 16, s.wordNat (0x400 + 32 * k.val + 8 + j.val) = ((s.slot k).data[j]).toNat) := by
  refine ⟨State.wordNat_slot (k := 0) k (by omega) rfl,
    (State.wordNat_slot (k := 1) k (by omega) rfl).trans (s.slot k).tell_toNat,
    (State.wordNat_slot (k := 2) k (by omega) rfl).trans (bytes_toNat _ _),
    State.wordNat_slot (k := 3) k (by omega) rfl, State.wordNat_slot (k := 4) k (by omega) rfl, fun j => ?_⟩
  have hj := j.isLt
  rw [State.wordNat_slot (k := j.val + 8) k (by omega) (by omega), Slot.word_data _ (by omega)]
  rfl

theorem wordNat_registers (s : State) :
    s.wordNat 0x501 = s.port.run.toNat ∧ s.wordNat 0x502 = s.port.alert.toNat ∧
      s.wordNat 0x503 = s.port.alertMask.toNat := by
  have ha := s.port.alert.isLt
  have hm := s.port.alertMask.isLt
  refine ⟨?_, ?_, ?_⟩
  · rw [State.wordNat, State.readWord, areaOf_runctl]
    cases s.port.run <;> rfl
  · rw [State.wordNat, State.readWord, areaOf_alert]
    exact (BitVec.toNat_setWidth _ _).trans (Nat.mod_eq_of_lt (by omega))
  · rw [State.wordNat, State.readWord, areaOf_alertmask]
    exact (BitVec.toNat_setWidth _ _).trans (Nat.mod_eq_of_lt (by omega))

/-! ### The statement -/

/-- Settles O53: the address decides the area, the area and the state decide whether the host is the writer, and
each area's words are read back by their layout. -/
theorem hostWriteStoredOrDropped : Obligations.HostWriteStoredOrDropped := by
  unfold Obligations.HostWriteStoredOrDropped
  refine ⟨hostWrite_dropped_or_stored, ?_, ?_, ?_⟩
  · intro s v addr a low high words ha hlow hhigh hwords
    subst ha
    obtain rfl : words = Params.words := funext hwords
    refine ⟨fun hr ha p hp => hostWrite_param_next s v addr hr ha p hp,
      fun c hr => hostWrite_classMap_next s v addr hlow hhigh c hr, fun k stored hstored => ?_⟩
    obtain rfl : stored = fun t => s.putSlot k t := funext hstored
    exact hostWrite_slot_next s v addr hlow hhigh k
  · intro s v addr
    exact ⟨fun k ticket ha ht => hostWrite_ask_event s v addr k ticket ha ht,
      fun n ha => hostWrite_seen_event s v addr n ha, hostWrite_register_event s v⟩
  · intro s stateCode entryCode phaseCode flag word hstate hentry hphase hflag hword
    obtain rfl := couplingCode_unique hstate
    obtain rfl := entryCode_unique hentry
    obtain rfl := phaseCode_unique hphase
    obtain rfl := flag_unique hflag
    obtain rfl : word = s.wordNat := funext hword
    refine ⟨?_, wordNat_classMap_words s, State.wordNat_seen, fun a ha => wordNat_unused s ha, ?_, ?_,
      wordNat_live_readings s, State.wordNat_record (k := 0x1D) (by omega) rfl, ?_, wordNat_entry s, ?_,
      wordNat_registers s⟩
    · intro p hp
      subst hp
      exact wordNat_params s
    · intro hrun hsum hl hd
      obtain ⟨hfeed, hpl, hpd, htrip⟩ := wordNat_feed_words s hrun hl hd
      refine ⟨State.wordNat_record (k := 0) (by omega) rfl, ?_, hfeed, hpl, hpd, ?_, ?_⟩
      · intro code hnone hpower hheld
        have hcode : code = s.cm.cause.code := by
          cases hc : s.cm.cause with
          | none => exact hnone hc
          | power => exact hpower hc
          | lineHeld => exact hheld hc
        rw [hcode]
        exact (State.wordNat_record (k := 1) (by omega) rfl).trans s.cm.word_toNat
      · intro code hnone ha hb
        have hcode : code = s.feed.trip.stage.code := by
          cases hc : s.feed.trip.stage with
          | none => exact hnone hc
          | a => exact ha hc
          | b => exact hb hc
        rw [hcode]
        exact htrip
      · intro r hr h1 h2 h3 h4
        exact wordNat_trip_readings s r hr h1 h2 h3 h4 (hr ▸ hsum)
    · intro hcounts
      have hresult := wordNat_pass_result s
      exact ⟨State.wordNat_record (k := 0x0B) (by omega) rfl, fun h => by rw [hresult, h]; rfl,
        fun h => by rw [hresult, h]; rfl, fun h => by rw [hresult, h]; rfl, wordNat_pass_counts s hcounts⟩
    · intro st
      exact (s.wordNat_stateCount st).trans (s.stateCount_eq st)
    · intro k t a ht ha
      subst ht ha
      obtain ⟨h0, h1, h2, h3, h4, h5⟩ := wordNat_slot_words s k
      refine ⟨h0, fun code hcode => ?_, h2, h3, h4, h5⟩
      rw [h1, Result.code_of_getElem? hcode]

end Sys2Proof.Machine
end
